-- ==== Sys2Proof/Word.lean ====
section
/-! DEFINITION. Widths of the block's ports and registers, and the raw words its ports carry
(00_scope.md R11, 30_encoding.md R70 to R74). -/

namespace Sys2Proof

/-- One bit or one 1-bit flag; `true` is 1 (00_scope.md R11, 30_encoding.md R71: a high line is 1). -/
abbrev Bit := Bool

/-- A data character of 4 bits (00_scope.md R14). -/
abbrev Nibble := BitVec 4

/-- A text byte (10_state.md R38). -/
abbrev Byte := BitVec 8

/-- A host register or a command word (20_memory.md R55, R56). -/
abbrev Word := BitVec 32

/-- A word address of the host register space (20_memory.md R59). -/
abbrev RegAddr := BitVec 4

/-- The host port's transaction of format H (30_encoding.md R72). -/
abbrev HostWord := BitVec 38

/-- What one port presents, before decoding, tagged with the port: every event is recognised from
its port alone (30_encoding.md R70). -/
inductive PortWord where
  /-- Format S: bit 1 `smp_valid`, bit 0 `smp_bit` (R71). -/
  | sample (w : BitVec 2)
  /-- Format H (R72). -/
  | host (w : HostWord)
  /-- Format C, a command word on its way to CMD (R74, log 18). -/
  | command (w : Word)
  /-- The validator's completion: internal, no pin (R73). -/
  | vdone
  /-- The reset input `rst` (R73). -/
  | reset (w : BitVec 1)
deriving DecidableEq, Repr

/-- The levels on the block's inputs in one clock cycle (30_encoding.md R71 to R73,
40_sampler.md R111). `smp` is the external sample port, used when there is no built-in front end. -/
structure Cycle where
  rst : Bit
  rfIn : Bit
  smp : BitVec 2
  host : HostWord
deriving DecidableEq, Repr

end Sys2Proof
end

