-- ==== Sys2Proof/Config.lean ====
section
/-! DEFINITION. The implementation parameters of 00_scope.md R8, and the free values that stand for
what the spec leaves OPEN. -/

namespace Sys2Proof

/-- The block's parameters (00_scope.md R8), fixed for the life of the block. BUF_INIT is not a
field: its bits are the buffer's own contents at power-on (log 3). -/
structure Params where
  /-- BUF_CAP: bitstream buffer capacity. -/
  bufCap : Nat
  /-- N_MARK: marker quota and ready threshold. -/
  nMark : Nat
  /-- COL_IDX: the monitored column-parity bit, counted from 0 in read order. -/
  colIdx : Fin 4
  /-- RUN_RESTART: the counter restarts at 0 after the ninth one (else it holds at 9). -/
  runRestart : Bool
  /-- RPE_RESET: reset value of CTRL.RPE. -/
  rpeReset : Bit
  /-- FE_PRESENT: the built-in timed front end drives the sample port. -/
  fePresent : Bool
  /-- VALIDATE_LATENCY: cycles from a VALIDATE to its VDONE. -/
  validateLatency : Nat
  /-- SAMPLE_DELAY_CYCLES: cycles from a detected edge to its sample, any number from 1 (log 19). -/
  sampleDelay : Nat
  /-- F_CLK in hertz: no rule of the block reads it but R115's relation (log 14). -/
  fClk : Nat
deriving DecidableEq, Repr

/-- Free value (log 3): BUF_INIT, the buffer's contents at power-on, by index (10_state.md R22,
93_implementation_defined.md I3). -/
opaque Config.bufInit : Nat → Bit

/-- Free value (log 4): VALIDATE_LATENCY less 1 (93_implementation_defined.md I12). -/
opaque Config.validateLatencyPred : Nat

/-- Free value (log 4): SAMPLE_DELAY_CYCLES less 1 (93_implementation_defined.md I13). -/
opaque Config.sampleDelayPred : Nat

/-- Free value (log 4): F_CLK less 1 (93_implementation_defined.md I13). -/
opaque Config.fClkPred : Nat

/-- The defaults of 00_scope.md R8, with a free value for each OPEN parameter (log 1, log 4). -/
def Params.default : Params :=
  { bufCap := 512, nMark := 5, colIdx := 1, runRestart := true, rpeReset := false,
    fePresent := true,
    validateLatency := Config.validateLatencyPred + 1,
    sampleDelay := Config.sampleDelayPred + 1,
    fClk := Config.fClkPred + 1 }

end Sys2Proof
end

