-- ==== Sys2Proof/Syntax.lean ====
section
/-! DEFINITION. The operations of the block: the events it accepts on its ports, one constructor for
each row of spec/opcode_table.json (00_scope.md R2, R13, 30_encoding.md R70 to R77). -/

namespace Sys2Proof

/-- One event. Operands are those of 30_encoding.md R77: the bit of SAMPLE, the address of RD, the
address and data of WR. WR_RO is three rows of the table (log 10), told apart by the leading address
bits; each keeps the address bits its row leaves free. -/
inductive Instr where
  /-- SAMPLE: format S, pattern `1b` (R71). -/
  | sample (b : Bit)
  /-- RD: `{we, re} = 01`; `wdata` is ignored (R72). -/
  | rd (addr : RegAddr)
  /-- WR_CTRL: a write to word 0 (R80). -/
  | wrCtrl (v : Word)
  /-- WR_CMD: a write to word 1, whose data is a command word of format C (R74). -/
  | wrCmd (v : Word)
  /-- WR_RO, words 2 and 3 (STATUS, PARAM): address bits `001a`. -/
  | wrRoStatusParam (a : BitVec 1) (v : Word)
  /-- WR_RO, words 4 to 7 (TAG_HI, TAG_LO, TXT0, TXT1): address bits `01aa`. -/
  | wrRoTagText (a : BitVec 2) (v : Word)
  /-- WR_RO, words 8 to 15 (TXT2, MARK0 to MARK4, unmapped 14 and 15): address bits `1aaa`. -/
  | wrRoMarks (a : BitVec 3) (v : Word)
  /-- HOST_RESERVED_11: the reserved transaction `{we, re} = 11`. -/
  | hostReserved11 (addr : RegAddr) (v : Word)
  /-- NOP: command word 0 (R75). -/
  | nop
  /-- VALIDATE: command word 1. -/
  | validate
  /-- DISCARD: command word 2. -/
  | discard
  /-- SOFTRESET: command word 3. -/
  | softreset
  /-- CMD_RESERVED: every other command word, by its fields `rsv` and `op` (R74, R76). -/
  | cmdReserved (rsv : BitVec 24) (op : BitVec 8)
  /-- VDONE: the validator's completion. -/
  | vdone
  /-- RESET: a cycle with `rst = 1`. -/
  | reset
deriving DecidableEq, Repr

end Sys2Proof
end

