-- ==== Sys2Proof/WellFormed.lean ====
section
/-! DEFINITION. What an instruction and a set of parameters must satisfy to be one the spec gives. -/

namespace Sys2Proof

/-- A reserved command word is none of the four command words (30_encoding.md R76). Every other
constructor's operands are all the values its encoding admits. -/
def Instr.wf : Instr → Bool
  | .sample _ => true
  | .rd _ => true
  | .wrCtrl _ => true
  | .wrCmd _ => true
  | .wrRoStatusParam _ _ => true
  | .wrRoTagText _ _ => true
  | .wrRoMarks _ _ => true
  | .hostReserved11 _ _ => true
  | .nop => true
  | .validate => true
  | .discard => true
  | .softreset => true
  | .cmdReserved rsv op => !(rsv == 0 && decide (op.toNat < 4))
  | .vdone => true
  | .reset => true

/-- The ranges of 00_scope.md R8 (COL_IDX's range is in its type). SAMPLE_DELAY_CYCLES has no upper
bound here, although 10_state.md R40 gives FE_CNT at most 16 bits (DESIGN CHOICE, log 19). -/
abbrev Params.wf (p : Params) : Prop :=
  (64 ≤ p.bufCap ∧ p.bufCap ≤ 65536) ∧ (1 ≤ p.nMark ∧ p.nMark ≤ 5) ∧
    1 ≤ p.validateLatency ∧ 1 ≤ p.sampleDelay ∧ 1 ≤ p.fClk

end Sys2Proof
end

