-- ==== Sys2Proof/Decode.lean ====
section
/-! DEFINITION. Decoding of the words the ports carry, total and rejecting by name, the encoder
beside it (30_encoding.md R70 to R77, opcode_table.json), and the table's rows as masks. -/

namespace Sys2Proof

/-- Why a port word is no event. -/
inductive NoEvent where
  /-- `smp_valid = 0` (30_encoding.md R71). -/
  | sampleNotValid
  /-- `{we, re} = 00` (R72). -/
  | hostIdle
  /-- `rst = 0` (R73). -/
  | resetInactive
deriving DecidableEq, Repr

/-- Format S (30_encoding.md R71). -/
def decodeSample (w : BitVec 2) : Except NoEvent Instr :=
  if w.getLsbD 1 then .ok (.sample (w.getLsbD 0)) else .error .sampleNotValid

/-- A WR by its address (43_host_access.md R172): word 0, word 1, or a read-only or unmapped word,
whose row keeps the free address bits. -/
def decodeWrite (addr : RegAddr) (v : Word) : Instr :=
  if addr.toNat = 0 then .wrCtrl v
  else if addr.toNat = 1 then .wrCmd v
  else if addr.toNat < 4 then .wrRoStatusParam (addr.extractLsb' 0 1) v
  else if addr.toNat < 8 then .wrRoTagText (addr.extractLsb' 0 2) v
  else .wrRoMarks (addr.extractLsb' 0 3) v

/-- Format H (30_encoding.md R72): bit 37 `we`, bit 36 `re`, bits 35:32 `addr`, bits 31:0 `wdata`. -/
def decodeHost (w : HostWord) : Except NoEvent Instr :=
  match w.getLsbD 37, w.getLsbD 36 with
  | false, false => .error .hostIdle
  | false, true => .ok (.rd (w.extractLsb' 32 4))
  | true, false => .ok (decodeWrite (w.extractLsb' 32 4) (w.extractLsb' 0 32))
  | true, true => .ok (.hostReserved11 (w.extractLsb' 32 4) (w.extractLsb' 0 32))

/-- Format C (30_encoding.md R74 to R76): the match is on the whole word. -/
def decodeCommand (w : Word) : Instr :=
  if w.toNat = 0 then .nop
  else if w.toNat = 1 then .validate
  else if w.toNat = 2 then .discard
  else if w.toNat = 3 then .softreset
  else .cmdReserved (w.extractLsb' 8 24) (w.extractLsb' 0 8)

/-- The event a port word is, or why it is none. -/
def decode : PortWord → Except NoEvent Instr
  | .sample w => decodeSample w
  | .host w => decodeHost w
  | .command w => .ok (decodeCommand w)
  | .vdone => .ok .vdone
  | .reset w => if w.getLsbD 0 then .ok .reset else .error .resetInactive

/-- A format H word from its fields (30_encoding.md R72). -/
def hostWord (we re : Bit) (addr : RegAddr) (v : Word) : HostWord :=
  BitVec.ofBool we ++ BitVec.ofBool re ++ addr ++ v

/-- The word of an instruction on its own port. -/
def encode : Instr → PortWord
  | .sample b => .sample (1#1 ++ BitVec.ofBool b)
  | .rd addr => .host (hostWord false true addr 0)
  | .wrCtrl v => .host (hostWord true false 0 v)
  | .wrCmd v => .host (hostWord true false 1 v)
  | .wrRoStatusParam a v => .host (hostWord true false (0b001#3 ++ a) v)
  | .wrRoTagText a v => .host (hostWord true false (0b01#2 ++ a) v)
  | .wrRoMarks a v => .host (hostWord true false (0b1#1 ++ a) v)
  | .hostReserved11 addr v => .host (hostWord true true addr v)
  | .nop => .command 0
  | .validate => .command 1
  | .discard => .command 2
  | .softreset => .command 3
  | .cmdReserved rsv op => .command (rsv ++ op)
  | .vdone => .vdone
  | .reset => .reset 1

/-- The mnemonic of spec/opcode_table.json. -/
def Instr.mnemonic : Instr → String
  | .sample _ => "SAMPLE"
  | .rd _ => "RD"
  | .wrCtrl _ => "WR_CTRL"
  | .wrCmd _ => "WR_CMD"
  | .wrRoStatusParam _ _ => "WR_RO"
  | .wrRoTagText _ _ => "WR_RO"
  | .wrRoMarks _ _ => "WR_RO"
  | .hostReserved11 _ _ => "HOST_RESERVED_11"
  | .nop => "NOP"
  | .validate => "VALIDATE"
  | .discard => "DISCARD"
  | .softreset => "SOFTRESET"
  | .cmdReserved _ _ => "CMD_RESERVED"
  | .vdone => "VDONE"
  | .reset => "RESET"

/-- The rows of format H of spec/opcode_table.json: mask, match, mnemonic. -/
def hostRows : List (HostWord × HostWord × String) :=
  [(0x3000000000, 0x1000000000, "RD"),
   (0x3F00000000, 0x2000000000, "WR_CTRL"),
   (0x3F00000000, 0x2100000000, "WR_CMD"),
   (0x3E00000000, 0x2200000000, "WR_RO"),
   (0x3C00000000, 0x2400000000, "WR_RO"),
   (0x3800000000, 0x2800000000, "WR_RO"),
   (0x3000000000, 0x3000000000, "HOST_RESERVED_11")]

/-- The rows of format C of spec/opcode_table.json in priority order: mask, match, mnemonic. -/
def commandRows : List (Word × Word × String) :=
  [(0xFFFFFFFF, 0, "NOP"), (0xFFFFFFFF, 1, "VALIDATE"), (0xFFFFFFFF, 2, "DISCARD"),
   (0xFFFFFFFF, 3, "SOFTRESET"), (0, 0, "CMD_RESERVED")]

/-- The port word that a row of the table with `nbits` bits stands for (log 9): 32 bits are a
command word, 38 (40 in whole bytes) a host transaction, 2 a sample, 1 the reset input, and none the
internal VDONE. In one byte, `1b` is a sample and `1` the reset input: the two do not meet. -/
def portWordOf (nbits w : Nat) : Option PortWord :=
  if 2 ^ nbits ≤ w then none
  else if nbits = 32 then some (.command (BitVec.ofNat 32 w))
  else if nbits = 38 then some (.host (BitVec.ofNat 38 w))
  else if nbits = 40 then (if w < 2 ^ 38 then some (.host (BitVec.ofNat 38 w)) else none)
  else if nbits = 2 then some (.sample (BitVec.ofNat 2 w))
  else if nbits = 1 then some (.reset (BitVec.ofNat 1 w))
  else if nbits = 8 then
    (if w < 2 then some (.reset (BitVec.ofNat 1 w))
     else if w < 4 then some (.sample (BitVec.ofNat 2 w)) else none)
  else if nbits = 0 then some .vdone
  else none

/-- The instruction the decoder reads from the bits `w` of a table row of `nbits` bits. -/
def decodeTableWord (nbits w : Nat) : Option Instr :=
  match portWordOf nbits w with
  | some p =>
    match decode p with
    | .ok i => some i
    | .error _ => none
  | none => none

/-- A host bus that presents byte address `A` drives the port's word address with `A[5:2]`, and
bits `A[1:0]` are ignored (20_memory.md R56). -/
def busWordAddr (A : Word) : RegAddr := A.extractLsb' 2 4

/-- A read on a byte-addressed host bus, as the port sees it (20_memory.md R56). -/
def busRead (A : Word) : PortWord := .host (hostWord false true (busWordAddr A) 0)

/-- A write of any width on a byte-addressed host bus, as the port sees it: the whole register is
written with the bus's data (20_memory.md R56). -/
def busWrite (A data : Word) : PortWord := .host (hostWord true false (busWordAddr A) data)

end Sys2Proof
end

