-- ==== Sys2Proof/Machine/State.lean ====
section
/-! DEFINITION. The block's state (10_state.md R22 to R39), the model's own fields beside it, and the
state after reset (70_reset_and_hazards.md R220, R221). -/

namespace Sys2Proof.Machine

/-- OUTCOME: the result of the last completed validation (10_state.md R32). The value 3 is never
produced, so it is no constructor (93_implementation_defined.md I11). -/
inductive Verdict where
  | none
  | accept
  | reject
deriving DecidableEq, Repr

/-- PEND.outcome (10_state.md R30). -/
inductive PendOutcome where
  | accept
  | reject
deriving DecidableEq, Repr

/-- PEND: the pending result of the validation in progress (10_state.md R30). -/
structure Pend where
  outcome : PendOutcome
  tag : Vector Nibble 10
  rowbad : Bit
  perrSeen : Bit
deriving DecidableEq, Repr

/-- CTRL: sampler enable and row-parity enforce (10_state.md R35, R36). -/
structure Ctrl where
  en : Bit
  rpe : Bit
deriving DecidableEq, Repr

/-- The timed front end's registers (10_state.md R39). FE_CNT is a number with no bound of its own:
R39's range, not the 16 bits of R40's table (DESIGN CHOICE, log 19). -/
structure FrontEnd where
  s1 : Bit
  s2 : Bit
  prev : Bit
  cnt : Nat
deriving DecidableEq, Repr

/-- The derived control state STATE (10_state.md R37); not stored. -/
inductive ControlState where
  | idle
  | sampling
  | frameReady
  | validating
deriving DecidableEq, Repr

/-- The state of the block and, last, the model's own fields: `params` (log 1), `vcnt` (log 7),
`rdata` (log 8), `events` (log 6) and `cycles` (log 7). -/
structure State where
  /-- The instance's parameters; nothing writes them (00_scope.md R8). -/
  params : Params
  /-- BUF, entry 0 first (10_state.md R22). -/
  buf : List Bit
  /-- WIDX (R23). -/
  widx : Nat
  /-- MARK[0..4] (R24). -/
  marks : Vector Nat 5
  /-- MCOUNT (R25). -/
  mcount : Nat
  /-- RUN (R26). -/
  run : Nat
  /-- READY (R27). -/
  ready : Bit
  /-- DONE (R28). -/
  done : Bit
  /-- BUSY (R29). -/
  busy : Bit
  /-- PEND (R30). -/
  pend : Pend
  /-- PERR (R31). -/
  perr : Bit
  /-- OUTCOME (R32). -/
  outcome : Verdict
  /-- APERR (R33). -/
  aperr : Bit
  /-- TAG[0..9] (R34). -/
  tag : Vector Nibble 10
  /-- CTRL (R35, R36). -/
  ctrl : Ctrl
  /-- FE_S1, FE_S2, FE_PREV, FE_CNT (R39). -/
  fe : FrontEnd
  /-- Clock cycles left to the VDONE of the validation in progress. -/
  vcnt : Nat
  /-- What the host port returned last; none before the first read. -/
  rdata : Option Word
  /-- The event words still to be processed, next first (20_memory.md R63). -/
  events : List PortWord
  /-- The clock cycles still to be presented, next first. -/
  cycles : List Cycle
deriving DecidableEq, Repr

/-- No event faults: the block raises no exception and has no fault state (60_exceptions.md R200).
The type is closed and empty, so no step can end in a fault: safe (log 12). -/
inductive Fault
deriving DecidableEq, Repr

/-- Why the model declines. -/
inductive Refusal where
  /-- Raised by exec's arms for an instruction that has no meaning yet; no arm is one. Safe. -/
  | notModelled (mnemonic : String)
  /-- Raised by `instantiate` for a parameter outside its range (93_implementation_defined.md I14);
  no step raises it. Safe. -/
  | parameterOutOfRange
deriving DecidableEq, Repr

/-- `n` buffer entries from index `start` on, each as `init` gives it. -/
def fillBuf (init : Nat → Bit) (start : Nat) : Nat → List Bit
  | 0 => []
  | n + 1 => init start :: fillBuf init (start + 1) n

/-- PEND with nothing pending: never read, since BUSY is 0 (10_state.md R30, log 5). -/
def Pend.cleared : Pend :=
  { outcome := .reject, tag := Vector.replicate 10 0, rowbad := false, perrSeen := false }

/-- The front end's registers after RESET (10_state.md R39). -/
def FrontEnd.cleared : FrontEnd := { s1 := false, s2 := false, prev := false, cnt := 0 }

/-- The state right after the first RESET of an instance with parameters `p` and power-on buffer
`init` (70_reset_and_hazards.md R220, R221), with no event presented yet. -/
def State.afterReset (p : Params) (init : Nat → Bit) : State :=
  { params := p
    buf := fillBuf init 0 p.bufCap
    widx := 0
    marks := Vector.replicate 5 0
    mcount := 0
    run := 0
    ready := false
    done := false
    busy := false
    pend := Pend.cleared
    perr := false
    outcome := .none
    aperr := false
    tag := Vector.replicate 10 0
    ctrl := { en := true, rpe := p.rpeReset }
    fe := FrontEnd.cleared
    vcnt := 0
    rdata := none
    events := []
    cycles := [] }

/-- The state right after reset of the instance with R8's defaults, for every BUF_INIT (log 1,
log 3). -/
def State.reset : State := State.afterReset Params.default Config.bufInit

end Sys2Proof.Machine
end

