-- ==== Sys2Proof/Machine/Operands.lean ====
section
/-! DEFINITION. Operand forms and register layouts: the fields of CTRL, bits and nibbles as the
validator packs them, the tag as text, byte lanes (30_encoding.md R80 to R87, 20_memory.md R54, R55). -/

namespace Sys2Proof.Machine

/-- CTRL from a written word: bit 0 EN, bit 1 RPE, bits 31:2 ignored (30_encoding.md R80). -/
def ctrlOfWord (v : Word) : Ctrl := { en := v.getLsbD 0, rpe := v.getLsbD 1 }

/-- CTRL as read: `zext_32({RPE, EN})` (43_host_access.md R171). -/
def ctrlWord (c : Ctrl) : Word := (BitVec.ofBool c.rpe ++ BitVec.ofBool c.en).setWidth 32

/-- The nibble `{B(p), B(p+1), B(p+2), B(p+3)}`, the first bit read the most significant
(20_memory.md R54, 42_validator.md R144). -/
def nibbleAt (B : Nat → Bit) (p : Nat) : Nibble :=
  BitVec.ofBool (B p) ++ BitVec.ofBool (B (p + 1)) ++ BitVec.ofBool (B (p + 2)) ++
    BitVec.ofBool (B (p + 3))

/-- `Hex(n)`: the upper-case ASCII digit (10_state.md R38). -/
def hexChar (n : Nibble) : Byte :=
  if n.toNat ≤ 9 then BitVec.ofNat 8 (0x30 + n.toNat) else BitVec.ofNat 8 (0x41 + (n.toNat - 10))

/-- TAG_HI: `{TAG[0], TAG[1]}` zero-extended (30_encoding.md R84). -/
def tagHiWord (t : Vector Nibble 10) : Word := (t[0] ++ t[1] : BitVec 8).setWidth 32

/-- TAG_LO: `{TAG[2], ..., TAG[9]}` (30_encoding.md R84). -/
def tagLoWord (t : Vector Nibble 10) : Word :=
  t[2] ++ t[3] ++ t[4] ++ t[5] ++ t[6] ++ t[7] ++ t[8] ++ t[9]

/-- TXT0: `{TXT[3], TXT[2], TXT[1], TXT[0]}` (30_encoding.md R86). -/
def txt0Word (t : Vector Nibble 10) : Word :=
  hexChar t[3] ++ hexChar t[2] ++ hexChar t[1] ++ hexChar t[0]

/-- TXT1: `{TXT[7], TXT[6], TXT[5], TXT[4]}` (30_encoding.md R86). -/
def txt1Word (t : Vector Nibble 10) : Word :=
  hexChar t[7] ++ hexChar t[6] ++ hexChar t[5] ++ hexChar t[4]

/-- TXT2: `{0x0000, TXT[9], TXT[8]}` (30_encoding.md R86). -/
def txt2Word (t : Vector Nibble 10) : Word :=
  (hexChar t[9] ++ hexChar t[8] : BitVec 16).setWidth 32

/-- MARKi: the marker in bits 15:0 (30_encoding.md R87). -/
def markWord (m : Nat) : Word := (BitVec.ofNat 16 m).setWidth 32

/-- PARAM: `{0[8:0], RUN_RESTART, COL_IDX[1:0], N_MARK[2:0], BUF_CAP[16:0]}` (30_encoding.md R83). -/
def paramWord (p : Params) : Word :=
  (BitVec.ofBool p.runRestart ++ BitVec.ofNat 2 p.colIdx.val ++ BitVec.ofNat 3 p.nMark ++
    BitVec.ofNat 17 p.bufCap : BitVec 23).setWidth 32

/-- Byte `k` of a register is bits `[8k+7 : 8k]` (20_memory.md R55). -/
def byteLane (w : Word) (k : Fin 4) : Byte := w.extractLsb' (8 * k.val) 8

/-- `SAMPLE_DELAY_CYCLES = round(t × F_CLK)` for a delay of `ns` nanoseconds (40_sampler.md R115);
a half rounds up (log 14). -/
def delayCycles (ns fClk : Nat) : Nat := (ns * fClk + 500000000) / 1000000000

end Sys2Proof.Machine
end

