-- ==== Sys2Proof/Machine/Flags.lean ====
section
/-! DEFINITION. Flag computations: the sampler's mask, DONE and READY, the derived STATE, and STATUS
(10_state.md R27 to R37, 30_encoding.md R82). -/

namespace Sys2Proof.Machine

/-- A SAMPLE is dropped while `BUSY = 1` or `CTRL.EN = 0` (40_sampler.md R100, R106). -/
def samplerMasked (s : State) : Bit := s.busy || !s.ctrl.en

/-- WIDX advanced by one modulo BUF_CAP (40_sampler.md R101). -/
def nextIdx (s : State) : Nat := (s.widx + 1) % s.params.bufCap

/-- DONE after an accepted sample: set when the advance wraps to 0 (40_sampler.md R102). -/
def doneAfterAppend (s : State) : Bit := s.done || decide (nextIdx s = 0)

/-- READY after a marker is recorded: set when the count reaches N_MARK (40_sampler.md R105). -/
def readyAfterMark (s : State) : Bit := s.ready || decide (s.mcount + 1 = s.params.nMark)

/-- STATE (10_state.md R37). -/
def controlState (s : State) : ControlState :=
  if s.busy then .validating
  else if s.ready || s.done then .frameReady
  else if 0 < s.mcount then .sampling
  else .idle

/-- STATE's encoding (10_state.md R37). -/
def ControlState.bits : ControlState → BitVec 2
  | .idle => 0
  | .sampling => 1
  | .frameReady => 2
  | .validating => 3

/-- OUTCOME's encoding (10_state.md R32). -/
def Verdict.bits : Verdict → BitVec 2
  | .none => 0
  | .accept => 1
  | .reject => 2

/-- STATUS: `{WIDX, RUN, MCOUNT, APERR, OUTCOME, PERR, BUSY, DONE, READY, STATE}`
(43_host_access.md R171). -/
def statusWord (s : State) : Word :=
  BitVec.ofNat 16 s.widx ++ BitVec.ofNat 4 s.run ++ BitVec.ofNat 3 s.mcount ++
    BitVec.ofBool s.aperr ++ s.outcome.bits ++ BitVec.ofBool s.perr ++ BitVec.ofBool s.busy ++
    BitVec.ofBool s.done ++ BitVec.ofBool s.ready ++ (controlState s).bits

end Sys2Proof.Machine
end

