-- ==== Sys2Proof/Machine/Ops.lean ====
section
/-! DEFINITION. The operations the meanings share: the buffer and the markers, the preamble detector,
Validate, entering a validation and leaving it (the block's nearest things to a trap entry and a trap
return, 60_exceptions.md R204, R205), the resets, the host registers and the command word. -/

namespace Sys2Proof.Machine

/-! ## Buffer and markers -/

/-- The buffer's canonical form: exactly BUF_CAP entries (10_state.md R22, log 2). -/
def Memory.wf (s : State) : Bool := s.buf.length == s.params.bufCap

/-- `B(x) = BUF[x mod BUF_CAP]` (20_memory.md R52); past the list, in no reachable state, 0
(log 15). -/
def bufRead (buf : List Bit) (cap x : Nat) : Bit := buf.getD (x % cap) false

/-- `BUF[WIDX] <- b`, WIDX advances, DONE on the wrap (40_sampler.md R101, R102). -/
def appendBit (b : Bit) (s : State) : State :=
  { s with buf := s.buf.set s.widx b, widx := nextIdx s, done := doneAfterAppend s }

/-- Marker capture (40_sampler.md R104, R105): `w` goes to `MARK[MCOUNT]` while the quota is open. -/
def recordMark (w : Nat) (s : State) : State :=
  if s.mcount < s.params.nMark then
    { s with
      marks := s.marks.setIfInBounds s.mcount w
      mcount := s.mcount + 1
      ready := readyAfterMark s }
  else s

/-- `RUN <- r`. -/
def setRun (r : Nat) (s : State) : State := { s with run := r }

/-- The preamble detector on one accepted bit (40_sampler.md R100, R103, R104); `w` is the new WIDX. -/
def detect (b : Bit) (w : Nat) (s : State) : State :=
  if b then
    if s.run + 1 = 9 then setRun (if s.params.runRestart then 0 else 9) (recordMark w s)
    else if s.run + 1 = 10 then setRun 9 s
    else setRun (s.run + 1) s
  else setRun 0 s

/-- SAMPLE(b) (40_sampler.md R100): dropped while masked, else appended and run through the detector. -/
def takeSample (b : Bit) (s : State) : State :=
  if samplerMasked s then s else detect b (nextIdx s) (appendBit b s)

/-! ## Validate -/

/-- The ten characters of the candidate `m` (42_validator.md R144). -/
def charsAt (B : Nat → Bit) (m : Nat) : Vector Nibble 10 :=
  Vector.ofFn fun k => nibbleAt B (m + 5 * k.val)

/-- Some character of the candidate fails its row check: its row-parity bit differs from bit 0 of
its nibble (42_validator.md R145). -/
def rowBadAt (B : Nat → Bit) (m : Nat) : Bit :=
  (List.range 10).any fun k =>
    B (m + 5 * k + 4) != (nibbleAt B (m + 5 * k)).getLsbD 0

/-- Column-parity bit `j`, in read order (42_validator.md R146). -/
def colAt (B : Nat → Bit) (m j : Nat) : Bit := B (m + 50 + j)

/-- The stop bit (42_validator.md R146). -/
def stopAt (B : Nat → Bit) (m : Nat) : Bit := B (m + 54)

/-- The acceptance rule (42_validator.md R147). -/
def passes (B : Nat → Bit) (colIdx : Nat) (rpe : Bit) (m : Nat) : Bit :=
  !stopAt B m && !colAt B m colIdx && (!rpe || !rowBadAt B m)

/-- The candidates in order, the first that passes; `seen` is any mismatch met so far
(42_validator.md R141, R142, R148). -/
def tryCandidates (B : Nat → Bit) (colIdx : Nat) (rpe : Bit) : Bit → List Nat → Pend
  | seen, [] =>
    { outcome := .reject, tag := Vector.replicate 10 0, rowbad := false, perrSeen := seen }
  | seen, m :: ms =>
    if passes B colIdx rpe m then
      { outcome := .accept, tag := charsAt B m, rowbad := rowBadAt B m,
        perrSeen := seen || rowBadAt B m }
    else tryCandidates B colIdx rpe (seen || rowBadAt B m) ms

/-- `MARK[0..MCOUNT-1]`, in capture order (42_validator.md R142). -/
def candidates (s : State) : List Nat := s.marks.toList.take s.mcount

/-- `Validate(BUF, MARK, MCOUNT, CTRL.RPE)` as they stand (42_validator.md R141). -/
def validateResult (s : State) : Pend :=
  tryCandidates (bufRead s.buf s.params.bufCap) s.params.colIdx.val s.ctrl.rpe false (candidates s)

/-! ## Frame reset, entering and leaving a validation -/

/-- `FrameReset()` (42_validator.md R150). -/
def frameReset (s : State) : State :=
  { s with
    ready := false
    done := false
    mcount := 0
    marks := Vector.replicate 5 0
    widx := 0
    run := 0 }

/-- VALIDATE (41_commands.md R122): saves the result in PEND and sets the mask BUSY; ignored while a
validation is in progress (R121). The completion is due VALIDATE_LATENCY cycles later. -/
def enterValidation (s : State) : State :=
  if s.busy then s
  else { s with pend := validateResult s, busy := true, vcnt := s.params.validateLatency }

/-- `BUSY <- 0`; no completion is due any more. -/
def clearBusy (s : State) : State := { s with busy := false, vcnt := 0 }

/-- The pending result applied to TAG, APERR, PERR and OUTCOME (42_validator.md R149). -/
def publish (s : State) : State :=
  match s.pend.outcome with
  | .accept =>
    { s with tag := s.pend.tag, aperr := s.pend.rowbad, perr := false, outcome := .accept }
  | .reject => { s with outcome := .reject, perr := s.perr || s.pend.perrSeen }

/-- VDONE (42_validator.md R149): enabled only while BUSY; clears BUSY, applies the result, resets
the frame. -/
def leaveValidation (s : State) : State :=
  if s.busy then frameReset (publish (clearBusy s)) else s

/-- DISCARD (41_commands.md R125): a frame reset, ignored while BUSY. -/
def discardFrame (s : State) : State := if s.busy then s else frameReset s

/-- PERR, OUTCOME, APERR and TAG to their reset values, and PEND discarded (41_commands.md R126). -/
def clearResults (s : State) : State :=
  { s with
    pend := Pend.cleared
    perr := false
    outcome := .none
    aperr := false
    tag := Vector.replicate 10 0 }

/-- SOFTRESET (41_commands.md R126), in every state. -/
def softReset (s : State) : State := clearResults (frameReset (clearBusy s))

/-- RESET (70_reset_and_hazards.md R220): the RESET column of 10_state.md R40; BUF is kept. -/
def hardReset (s : State) : State :=
  { s with
    widx := 0
    marks := Vector.replicate 5 0
    mcount := 0
    run := 0
    ready := false
    done := false
    busy := false
    pend := Pend.cleared
    perr := false
    outcome := .none
    aperr := false
    tag := Vector.replicate 10 0
    ctrl := { en := true, rpe := s.params.rpeReset }
    fe := FrontEnd.cleared
    vcnt := 0 }

/-! ## Host registers -/

/-- `RegRead(a)` (43_host_access.md R171). -/
def regRead (a : RegAddr) (s : State) : Word :=
  match a.toNat with
  | 0 => ctrlWord s.ctrl
  | 1 => 0
  | 2 => statusWord s
  | 3 => paramWord s.params
  | 4 => tagHiWord s.tag
  | 5 => tagLoWord s.tag
  | 6 => txt0Word s.tag
  | 7 => txt1Word s.tag
  | 8 => txt2Word s.tag
  | 9 => markWord s.marks[0]
  | 10 => markWord s.marks[1]
  | 11 => markWord s.marks[2]
  | 12 => markWord s.marks[3]
  | 13 => markWord s.marks[4]
  | _ => 0

/-- The host port returns `v`. -/
def returnData (v : Word) (s : State) : State := { s with rdata := some v }

/-- A write to CTRL, in every STATE (43_host_access.md R173). -/
def writeCtrl (v : Word) (s : State) : State := { s with ctrl := ctrlOfWord v }

/-- The command word `v` written to CMD (41_commands.md R120). -/
def runCommand (v : Word) (s : State) : State :=
  if v = 3#32 then softReset s
  else if s.busy then s
  else if v = 1#32 then enterValidation s
  else if v = 2#32 then discardFrame s
  else s

/-- `RegWrite(a, v)` (43_host_access.md R172): only CTRL and CMD change state. -/
def regWrite (a : RegAddr) (v : Word) (s : State) : State :=
  match a.toNat with
  | 0 => writeCtrl v s
  | 1 => runCommand v s
  | _ => s

/-! ## Events presented -/

/-- The event word `w` presented next, before those already pending. -/
def presentNext (w : PortWord) (s : State) : State := { s with events := w :: s.events }

/-- The pending events are `ws`. -/
def setEvents (ws : List PortWord) (s : State) : State := { s with events := ws }

/-- An instance with parameters `p` and power-on buffer `init`, after its first RESET; parameters
outside R8's ranges are refused (93_implementation_defined.md I14). -/
def instantiate (p : Params) (init : Nat → Bit) : Host.Outcome State Fault Refusal :=
  if p.wf then .next (State.afterReset p init) else .refused .parameterOutOfRange

end Sys2Proof.Machine
end

