-- ==== Sys2Proof/Machine/Commands.lean ====
section
/-! DEFINITION. The host commands: NOP, VALIDATE, DISCARD, SOFTRESET and the reserved words
(41_commands.md R120 to R127). -/

namespace Sys2Proof.Machine

/-- NOP (41_commands.md R124). -/
def execNop (s : State) : Host.Outcome State Fault Refusal := .next s

/-- VALIDATE (41_commands.md R122). -/
def execValidate (s : State) : Host.Outcome State Fault Refusal := .next (enterValidation s)

/-- DISCARD (41_commands.md R125). -/
def execDiscard (s : State) : Host.Outcome State Fault Refusal := .next (discardFrame s)

/-- SOFTRESET (41_commands.md R126). -/
def execSoftreset (s : State) : Host.Outcome State Fault Refusal := .next (softReset s)

/-- A reserved command word changes no state, in every STATE, and raises nothing (41_commands.md
R127, log 11). -/
def execCmdReserved (_rsv : BitVec 24) (_op : BitVec 8) (s : State) :
    Host.Outcome State Fault Refusal := .next s

end Sys2Proof.Machine
end

