-- ==== Sys2Proof/Machine/Completion.lean ====
section
/-! DEFINITION. The validator's completion VDONE (42_validator.md R149) and the reset input RESET
(70_reset_and_hazards.md R220). -/

namespace Sys2Proof.Machine

/-- VDONE (42_validator.md R149). -/
def execVdone (s : State) : Host.Outcome State Fault Refusal := .next (leaveValidation s)

/-- RESET (70_reset_and_hazards.md R220). -/
def execReset (s : State) : Host.Outcome State Fault Refusal := .next (hardReset s)

end Sys2Proof.Machine
end

