-- ==== Sys2Proof/Machine/HostAccess.lean ====
section
/-! DEFINITION. Host register access: RD, WR_CTRL, WR_CMD, WR_RO and the reserved transaction
(43_host_access.md R170 to R175). -/

namespace Sys2Proof.Machine

/-- RD(a): `rdata <- RegRead(a)`, no other effect (43_host_access.md R170). -/
def execRd (a : RegAddr) (s : State) : Host.Outcome State Fault Refusal :=
  .next (returnData (regRead a s) s)

/-- WR to word 0 (43_host_access.md R173). -/
def execWrCtrl (v : Word) (s : State) : Host.Outcome State Fault Refusal :=
  .next (regWrite 0 v s)

/-- WR to word 1: the data is a command word (41_commands.md R120). -/
def execWrCmd (v : Word) (s : State) : Host.Outcome State Fault Refusal :=
  .next (regWrite 1 v s)

/-- WR to words 2 and 3 (43_host_access.md R174). -/
def execWrRoStatusParam (a : BitVec 1) (v : Word) (s : State) : Host.Outcome State Fault Refusal :=
  .next (regWrite (0b001#3 ++ a) v s)

/-- WR to words 4 to 7 (43_host_access.md R174). -/
def execWrRoTagText (a : BitVec 2) (v : Word) (s : State) : Host.Outcome State Fault Refusal :=
  .next (regWrite (0b01#2 ++ a) v s)

/-- WR to words 8 to 15 (43_host_access.md R174). -/
def execWrRoMarks (a : BitVec 3) (v : Word) (s : State) : Host.Outcome State Fault Refusal :=
  .next (regWrite (0b1#1 ++ a) v s)

/-- The reserved transaction performs `WR(addr, wdata)` and returns 0 (43_host_access.md R175,
log 11). -/
def execHostReserved11 (a : RegAddr) (v : Word) (s : State) : Host.Outcome State Fault Refusal :=
  .next (returnData 0 (regWrite a v s))

end Sys2Proof.Machine
end

