-- ==== Sys2Proof/Machine/Sampler.lean ====
section
/-! DEFINITION. The edge sampler and frame synchronizer: SAMPLE (40_sampler.md R100 to R107). -/

namespace Sys2Proof.Machine

/-- SAMPLE(b) (40_sampler.md R100). -/
def execSample (b : Bit) (s : State) : Host.Outcome State Fault Refusal := .next (takeSample b s)

end Sys2Proof.Machine
end

