-- ==== Sys2Proof/Machine/Dispatch.lean ====
section
/-! DEFINITION. One arm per constructor of Instr, each one call of its meaning. -/

namespace Sys2Proof.Machine

def exec (i : Instr) (s : State) : Host.Outcome State Fault Refusal :=
  match i with
  | .sample b => Sys2Proof.Machine.execSample b s
  | .rd addr => Sys2Proof.Machine.execRd addr s
  | .wrCtrl v => Sys2Proof.Machine.execWrCtrl v s
  | .wrCmd v => Sys2Proof.Machine.execWrCmd v s
  | .wrRoStatusParam a v => Sys2Proof.Machine.execWrRoStatusParam a v s
  | .wrRoTagText a v => Sys2Proof.Machine.execWrRoTagText a v s
  | .wrRoMarks a v => Sys2Proof.Machine.execWrRoMarks a v s
  | .hostReserved11 addr v => Sys2Proof.Machine.execHostReserved11 addr v s
  | .nop => Sys2Proof.Machine.execNop s
  | .validate => Sys2Proof.Machine.execValidate s
  | .discard => Sys2Proof.Machine.execDiscard s
  | .softreset => Sys2Proof.Machine.execSoftreset s
  | .cmdReserved rsv op => Sys2Proof.Machine.execCmdReserved rsv op s
  | .vdone => Sys2Proof.Machine.execVdone s
  | .reset => Sys2Proof.Machine.execReset s

end Sys2Proof.Machine
end

