-- ==== Sys2Proof/Machine/FrontEnd.lean ====
section
/-! DEFINITION. The clock: the timed front end (40_sampler.md R111 to R114), the countdown to VDONE
(30_encoding.md R73), and the events of one cycle in the order of 60_exceptions.md R206 (log 7). -/

namespace Sys2Proof.Machine

/-- An edge is seen: `FE_S2 ≠ FE_PREV` at the cycle's start (40_sampler.md R112). -/
def FrontEnd.edge (f : FrontEnd) : Bit := f.s2 != f.prev

/-- FE_CNT after a cycle (40_sampler.md R113). -/
def FrontEnd.nextCnt (delay : Nat) (f : FrontEnd) : Nat :=
  if f.cnt = 0 then (if f.edge then delay else 0) else f.cnt - 1

/-- One cycle of the front end with the RF line at `rf` (40_sampler.md R111, R113). -/
def FrontEnd.tick (delay : Nat) (rf : Bit) (f : FrontEnd) : FrontEnd :=
  { s1 := rf, s2 := f.s1, prev := f.s2, cnt := f.nextCnt delay }

/-- The front end presents `SAMPLE(FE_S2)` in a cycle that starts with `FE_CNT = 1`
(40_sampler.md R113). -/
def FrontEnd.presents (f : FrontEnd) : Option Bit := if f.cnt = 1 then some f.s2 else none

/-- The word on the sample port in this cycle: the front end's when there is one, else the external
port's (30_encoding.md R71, log 17). -/
def samplePort (c : Cycle) (s : State) : Option (BitVec 2) :=
  if s.params.fePresent then s.fe.presents.map fun b => 1#1 ++ BitVec.ofBool b
  else if c.smp.getLsbD 1 then some c.smp else none

/-- The host transaction of this cycle, if there is one (30_encoding.md R72). -/
def hostPort (c : Cycle) : Option HostWord :=
  if c.host.getLsbD 37 || c.host.getLsbD 36 then some c.host else none

/-- VDONE falls in this cycle: the validation in progress has no cycle left (30_encoding.md R73). -/
def completionDue (s : State) : Bit := s.busy && decide (s.vcnt ≤ 1)

/-- The events of one cycle in their order (60_exceptions.md R206): RESET alone, else SAMPLE, then
the host transaction, then VDONE. -/
def cycleEvents (c : Cycle) (s : State) : List PortWord :=
  if c.rst then [.reset 1]
  else
    (samplePort c s).toList.map PortWord.sample ++ (hostPort c).toList.map PortWord.host ++
      (if completionDue s then [.vdone] else [])

/-- The registers that every clock cycle updates: the front end where there is one, which neither
CTRL.EN nor BUSY gates (40_sampler.md R114), and the countdown to VDONE. -/
def tickRegisters (c : Cycle) (s : State) : State :=
  { s with
    fe := if s.params.fePresent then s.fe.tick s.params.sampleDelay c.rfIn else s.fe
    vcnt := s.vcnt - 1 }

/-- The clock edge that opens a cycle: its events become pending, and in a cycle without RESET the
front end and the countdown move (a RESET cycle sets them itself, 60_exceptions.md R206,
log 17). -/
def clockTick (c : Cycle) (s : State) : State :=
  setEvents (s.events ++ cycleEvents c s) (if c.rst then s else tickRegisters c s)

/-- The cycles still to be presented are `cs`. -/
def setCycles (cs : List Cycle) (s : State) : State := { s with cycles := cs }

end Sys2Proof.Machine
end

