-- ==== Sys2Proof/Machine/Events.lean ====
section
/-! DEFINITION. Taking the next event word: decoded and executed, or consumed without effect when it
is no event (30_encoding.md R71 to R73); and sequences of events (20_memory.md R63). -/

namespace Sys2Proof.Machine

/-- One port word: its event's meaning, or no change when the port presents no event (log 16). -/
def runWord (w : PortWord) (s : State) : Host.Outcome State Fault Refusal :=
  match decode w with
  | .ok i => exec i s
  | .error _ => .next s

/-- Instructions one after another, each from the state the one before it left (20_memory.md R63). -/
def execAll : List Instr → State → Host.Outcome State Fault Refusal
  | [], s => .next s
  | i :: is, s =>
    match exec i s with
    | .next t => execAll is t
    | .fault r => .fault r
    | .refused r => .refused r

/-- Event words one after another. -/
def runWords : List PortWord → State → Host.Outcome State Fault Refusal
  | [], s => .next s
  | w :: ws, s =>
    match runWord w s with
    | .next t => runWords ws t
    | .fault r => .fault r
    | .refused r => .refused r

/-- One whole clock cycle from a state with no event pending: the clock edge, then the cycle's
events in their order (60_exceptions.md R206). -/
def runCycle (c : Cycle) (s : State) : Host.Outcome State Fault Refusal :=
  runWords (cycleEvents c s) (setEvents [] (clockTick c s))

/-- Whole clock cycles one after another. -/
def runCycles : List Cycle → State → Host.Outcome State Fault Refusal
  | [], s => .next s
  | c :: cs, s =>
    match runCycle c s with
    | .next t => runCycles cs t
    | .fault r => .fault r
    | .refused r => .refused r

/-- One step (log 6, log 7): the next pending event word; with none pending, the clock edge of the
next cycle; with neither, nothing is presented and nothing changes. -/
def stepPresented (s : State) : Host.Outcome State Fault Refusal :=
  match s.events with
  | w :: rest => runWord w (setEvents rest s)
  | [] =>
    match s.cycles with
    | c :: rest => .next (clockTick c (setCycles rest s))
    | [] => .next s

/-- The table word of `nbits` bits presented next, if there is one (log 9). -/
def presentTableWord (s : State) (nbits w : Nat) : State :=
  match portWordOf nbits w with
  | some p => presentNext p s
  | none => s

end Sys2Proof.Machine
end

