-- ==== Sys2Proof/Machine/Step.lean ====
section
/-! DEFINITION. The step of the machine (00_scope.md R13), and the placing of one table word where the
step takes its next event. -/

namespace Sys2Proof.Machine

/-- One step: one event, or the clock edge that presents a cycle's events. -/
def step (s : State) : Host.Outcome State Fault Refusal := stepPresented s

/-- `s` with the table word of `nbits` bits at the head of the pending events: the very next step
runs it (log 9). -/
def State.withFetchWord (s : State) (nbits w : Nat) : State := presentTableWord s nbits w

end Sys2Proof.Machine
end

