-- ==== Sys2Proof/Safety.lean ====
section
/-! DEFINITION. What claims use: the invariant of the reachable states (10_state.md R41), safe runs
(60_exceptions.md R200), and the states and event sequences that statements range over. -/

namespace Sys2Proof.Machine

/-- The invariants of every reachable state (10_state.md R41), with the ranges of the parameters
(00_scope.md R8), the buffer's form (R22), the front end's countdown (R39) and the model's own
countdown to VDONE. -/
structure State.Inv (s : State) : Prop where
  params_wf : s.params.wf
  buf_wf : Memory.wf s = true
  widx_lt : s.widx < s.params.bufCap
  mcount_le : s.mcount ≤ s.params.nMark
  ready_iff : s.ready = true ↔ s.mcount = s.params.nMark
  marks_unused : ∀ i : Fin 5, s.mcount ≤ i.val → s.marks[i] = 0
  marks_lt : ∀ i : Fin 5, s.marks[i] < s.params.bufCap
  run_le : s.run ≤ if s.params.runRestart then 8 else 9
  none_clear : s.outcome = .none → s.aperr = false ∧ s.tag = Vector.replicate 10 0
  cnt_le : s.fe.cnt ≤ s.params.sampleDelay
  vcnt_le : s.vcnt ≤ s.params.validateLatency

/-- The part of the state that the model adds to the spec's: nothing an event does changes it, but
for `rdata` (a read) and `vcnt` (a validation). -/
structure State.SameSchedule (s t : State) : Prop where
  params : t.params = s.params
  events : t.events = s.events
  cycles : t.cycles = s.cycles

/-- A run of `n` steps from `s` reaches a state: no fault and no refusal on the way. -/
def SafeRun (n : Nat) (s : State) : Prop := ∃ t, Sys2Proof.core.run n s = .next t

/-- The samples of the bits `bs`, in order. -/
def samples (bs : List Bit) : List Instr := bs.map Instr.sample

/-- The five samples `CHAR h` stands for: four bits most significant first, then bit 0 again
(30_encoding.md R89). -/
def charBits (h : Nibble) : List Bit :=
  [h.getLsbD 3, h.getLsbD 2, h.getLsbD 1, h.getLsbD 0, h.getLsbD 0]

/-- A whole frame as it arrives: PREAMBLE, ten CHARs, TRAILER `col`, `stop` (00_scope.md R3,
30_encoding.md R89). -/
def frameBits (tag : Vector Nibble 10) (col : Vector Bit 4) (stop : Bit) : List Bit :=
  List.replicate 9 true ++ tag.toList.flatMap charBits ++ col.toList ++ [stop]

/-- The events that complete a validation or end it early: VDONE, SOFTRESET, RESET, and the two host
transactions that carry SOFTRESET (41_commands.md R121, 43_host_access.md R175). -/
def endsValidation : Instr → Bool
  | .vdone => true
  | .softreset => true
  | .reset => true
  | .wrCmd v => v == 3#32
  | .hostReserved11 a v => a == 1#4 && v == 3#32
  | .sample _ => false
  | .rd _ => false
  | .wrCtrl _ => false
  | .wrRoStatusParam _ _ => false
  | .wrRoTagText _ _ => false
  | .wrRoMarks _ _ => false
  | .nop => false
  | .validate => false
  | .discard => false
  | .cmdReserved _ _ => false

end Sys2Proof.Machine
end

