-- ==== Sys2Proof/Certificates/Slice0/Obligations.lean ====
section
/-! DEFINITION. Statements for the provers. The helper definitions of `Sys2Proof.Claim` say in the
spec's own terms what the statements speak of; none of them is a definition of the model. -/

open Sys2Proof Sys2Proof.Machine

namespace Sys2Proof.Claim

/-- `B(x)` of the state (20_memory.md R52). -/
abbrev at_ (s : State) (x : Nat) : Bit := bufRead s.buf s.params.bufCap x

/-- Candidate `i`, in capture order. -/
abbrev cand (s : State) (i : Nat) : Nat := s.marks.toList.getD i 0

/-- Some character of candidate `m` fails its row check: the bit after it is not its fourth bit
(42_validator.md R145). -/
abbrev RowMismatch (s : State) (m : Nat) : Prop :=
  ∃ k, k < 10 ∧ at_ s (m + 5 * k + 4) ≠ at_ s (m + 5 * k + 3)

/-- The acceptance rule (42_validator.md R147). -/
abbrev Accepted (s : State) (m : Nat) : Prop :=
  at_ s (m + 54) = false ∧ at_ s (m + 50 + s.params.colIdx.val) = false ∧
    (s.ctrl.rpe = true → ¬ RowMismatch s m)

/-- The ten characters of candidate `m` are `t` (42_validator.md R144). -/
abbrev Spells (s : State) (m : Nat) (t : Vector Nibble 10) : Prop :=
  ∀ k : Fin 10, (t[k]).toNat =
    8 * (at_ s (m + 5 * k.val)).toNat + 4 * (at_ s (m + 5 * k.val + 1)).toNat +
      2 * (at_ s (m + 5 * k.val + 2)).toNat + (at_ s (m + 5 * k.val + 3)).toNat

/-- Candidate `i` is the first accepted one. -/
abbrev FirstAccepted (s : State) (i : Nat) : Prop :=
  i < s.mcount ∧ Accepted s (cand s i) ∧ ∀ j, j < i → ¬ Accepted s (cand s j)

/-- No candidate is accepted. -/
abbrev NoneAccepted (s : State) : Prop := ∀ i, i < s.mcount → ¬ Accepted s (cand s i)

/-- SAMPLE is taken: neither masked nor disabled (40_sampler.md R100). -/
abbrev Armed (s : State) : Prop := s.busy = false ∧ s.ctrl.en = true

/-- The ASCII code of the upper-case hexadecimal digit of `n` (10_state.md R38). -/
def hexCode (n : Nat) : Nat := if n ≤ 9 then 48 + n else 65 + (n - 10)

/-- The front end over the given RF levels, one cycle each. -/
def feRun (delay : Nat) (f : FrontEnd) (rf : List Bit) : FrontEnd :=
  rf.foldl (fun g r => g.tick delay r) f

/-- A cycle in which neither RESET nor the host acts. -/
abbrev Quiet (c : Cycle) : Prop :=
  c.rst = false ∧ c.host.getLsbD 37 = false ∧ c.host.getLsbD 36 = false

/-- The SAMPLE of a cycle: the front end's `SAMPLE(FE_S2)` where FE_CNT is 1 (40_sampler.md R113), or,
with no front end, the external port's where `smp_valid` is 1 (30_encoding.md R71). -/
def sampleOf (s : State) (c : Cycle) : List Instr :=
  if s.params.fePresent then (if s.fe.cnt = 1 then [.sample s.fe.s2] else [])
  else if c.smp.getLsbD 1 then [.sample (c.smp.getLsbD 0)] else []

/-- The host transaction of a cycle, none where `{we, re} = 00` (30_encoding.md R72). -/
def hostOf (c : Cycle) : List Instr :=
  match decode (.host c.host) with
  | .ok i => [i]
  | .error _ => []

/-- The VDONE of a cycle that starts with a validation whose last cycle it is (log 7). -/
def completionOf (s : State) : List Instr := if s.busy = true ∧ s.vcnt ≤ 1 then [.vdone] else []

/-- The state the events of a cycle without RESET start from: the front end, where there is one, has
moved (40_sampler.md R111, R113), and so has the model's countdown (log 7). -/
def atEdge (s : State) (c : Cycle) : State :=
  { s with
    events := []
    vcnt := s.vcnt - 1
    fe :=
      if s.params.fePresent then
        { s1 := c.rfIn, s2 := s.fe.s1, prev := s.fe.s2,
          cnt :=
            if s.fe.cnt ≠ 0 then s.fe.cnt - 1
            else if s.fe.s2 ≠ s.fe.prev then s.params.sampleDelay else 0 }
      else s.fe }

/-- The order of STATE from IDLE to VALIDATING is that of its encoding. -/
abbrev stateNo (s : State) : Nat := ((regRead 2 s).extractLsb' 0 2).toNat

end Sys2Proof.Claim

open Sys2Proof.Claim

/-! ## SAMPLE -/

/-- 40_sampler.md R106. -/
def Obligations.SampleDroppedWhileMasked : Prop :=
  ∀ (b : Bit) (s : State), s.busy = true ∨ s.ctrl.en = false → exec (.sample b) s = .next s

/-- 20_memory.md R51: where SAMPLE writes, and that nothing else writes an entry. -/
def Obligations.OnlySampleWritesTheBufferAtWidx : Prop :=
  (∀ (b : Bit) (s : State), s.Inv → Armed s →
    ∃ t, exec (.sample b) s = .next t ∧ t.buf.length = s.buf.length ∧
      t.widx = (s.widx + 1) % s.params.bufCap ∧ at_ t s.widx = b ∧
      ∀ x, x % s.params.bufCap ≠ s.widx → at_ t x = at_ s x) ∧
  ∀ (i : Instr) (s t : State), exec i s = .next t → t.buf ≠ s.buf → ∃ b, i = .sample b

/-- 40_sampler.md R102. -/
def Obligations.SampleSetsDoneOnTheWrap : Prop :=
  ∀ (b : Bit) (s : State), s.Inv → Armed s →
    ∃ t, exec (.sample b) s = .next t ∧
      (s.widx = s.params.bufCap - 1 → t.widx = 0 ∧ t.done = true ∧ at_ t s.widx = b) ∧
      (s.widx ≠ s.params.bufCap - 1 → t.widx = s.widx + 1 ∧ t.done = s.done)

/-- 40_sampler.md R103: a 0 clears RUN, a 1 short of the ninth counts, and a run of ones shorter
than 9 that ends in a 0 leaves no trace in the counter or the markers. -/
def Obligations.ShortRunLeavesNoTrace : Prop :=
  (∀ s : State, Armed s →
    (∃ t, exec (.sample false) s = .next t ∧ t.run = 0) ∧
    (s.run < 8 → ∃ t, exec (.sample true) s = .next t ∧ t.run = s.run + 1)) ∧
  ∀ (s : State) (n : Nat), Armed s → s.run = 0 → n < 9 →
    ∃ t, execAll (samples (List.replicate n true ++ [false])) s = .next t ∧
      t.run = 0 ∧ t.marks = s.marks ∧ t.mcount = s.mcount ∧ t.ready = s.ready

/-- 40_sampler.md R104: the ninth one, with the quota open and with it exhausted, and the held
counter. -/
def Obligations.NinthOneRecordsTheMarker : Prop :=
  ∀ s : State, s.Inv → Armed s →
    (s.run = 8 → s.mcount < s.params.nMark →
      ∃ t, exec (.sample true) s = .next t ∧ t.mcount = s.mcount + 1 ∧
        (∀ i : Fin 5, t.marks[i] =
          if i.val = s.mcount then (s.widx + 1) % s.params.bufCap else s.marks[i]) ∧
        t.run = if s.params.runRestart then 0 else 9) ∧
    (s.run = 8 → s.mcount = s.params.nMark →
      ∃ t, exec (.sample true) s = .next t ∧ t.mcount = s.mcount ∧ t.marks = s.marks ∧
        t.run = if s.params.runRestart then 0 else 9) ∧
    (s.run = 9 →
      ∃ t, exec (.sample true) s = .next t ∧ t.mcount = s.mcount ∧ t.marks = s.marks ∧ t.run = 9)

/-- 40_sampler.md R105: the marker that fills the quota sets READY, and from then on no sample
changes the markers while samples go on being written. -/
def Obligations.ReadyAtTheQuotaSuspendsCapture : Prop :=
  (∀ s : State, s.Inv → Armed s → s.run = 8 → s.mcount + 1 = s.params.nMark →
    ∃ t, exec (.sample true) s = .next t ∧ t.ready = true ∧ t.mcount = s.params.nMark) ∧
  ∀ (s : State) (bs : List Bit), s.Inv → Armed s → s.ready = true →
    ∃ t, execAll (samples bs) s = .next t ∧ t.ready = true ∧ t.mcount = s.mcount ∧
      t.marks = s.marks ∧ t.widx = (s.widx + bs.length) % s.params.bufCap

/-- The frame of SAMPLE: it changes nothing but BUF, WIDX, DONE, RUN, MARK, MCOUNT and READY, so
every result, CTRL, BUSY, PEND and the front end stay (40_sampler.md R100). -/
def Obligations.SampleLeavesEverythingElse : Prop :=
  ∀ (b : Bit) (s : State), ∃ t, exec (.sample b) s = .next t ∧
    { t with buf := s.buf, widx := s.widx, done := s.done, run := s.run, marks := s.marks,
             mcount := s.mcount, ready := s.ready } = s

/-- How SAMPLE moves STATE (40_sampler.md section 3): never down, never out of VALIDATING or into
it; IDLE to SAMPLING with the first marker, and to FRAME_READY exactly with READY or DONE. -/
def Obligations.SampleMovesStateOnlyUpward : Prop :=
  ∀ (b : Bit) (s t : State), s.Inv → exec (.sample b) s = .next t →
    stateNo s ≤ stateNo t ∧ (stateNo s = 3 ↔ stateNo t = 3) ∧
    (stateNo s = 0 → stateNo t = 1 → s.mcount = 0 ∧ t.mcount = 1) ∧
    (stateNo s < 2 → (stateNo t = 2 ↔ t.ready = true ∨ t.done = true))

/-- BUF as a window of the samples accepted since WIDX was 0 (40_sampler.md section 2): the last
BUF_CAP of them stand at their index modulo BUF_CAP, the rest keeps its earlier contents. -/
def Obligations.BufferIsTheWindowOfTheSamples : Prop :=
  ∀ (s : State) (bs : List Bit), s.Inv → Armed s → s.widx = 0 →
    ∃ t, execAll (samples bs) s = .next t ∧ t.widx = bs.length % s.params.bufCap ∧
      (∀ j, j < bs.length → bs.length ≤ j + s.params.bufCap → some (at_ t j) = bs[j]?) ∧
      ∀ i, bs.length ≤ i → i < s.params.bufCap → at_ t i = at_ s i

/-- Markers are at least 9 accepted samples apart (40_sampler.md section 2): a capture leaves RUN
restarted (or held), and from there fewer than 9 samples record nothing. -/
def Obligations.MarkersAreNineSamplesApart : Prop :=
  (∀ (b : Bit) (s t : State), s.Inv → exec (.sample b) s = .next t → t.mcount ≠ s.mcount →
    b = true ∧ s.run = 8 ∧ t.run = if s.params.runRestart then 0 else 9) ∧
  ∀ (s : State) (bs : List Bit), s.Inv → Armed s →
    s.run = (if s.params.runRestart then 0 else 9) → bs.length < 9 →
    ∃ t, execAll (samples bs) s = .next t ∧ t.mcount = s.mcount ∧ t.marks = s.marks

/-- A complete frame stays as sampled for BUF_CAP - 55 further samples, and the next one overwrites
its first position (70_reset_and_hazards.md section 3). -/
def Obligations.FrameSurvivesUntilOverwritten : Prop :=
  ∀ (s : State) (m : Nat) (bs : List Bit) (b : Bit), s.Inv → Armed s → m < s.params.bufCap →
    s.widx = (m + 55) % s.params.bufCap → bs.length + 55 ≤ s.params.bufCap →
    ∃ t, execAll (samples bs) s = .next t ∧ (∀ off, off < 55 → at_ t (m + off) = at_ s (m + off)) ∧
      (bs.length + 55 = s.params.bufCap →
        ∃ u, exec (.sample b) t = .next u ∧ at_ u m = b)

/-! ## Commands -/

/-- 41_commands.md R120. -/
def Obligations.CommandWordDispatch : Prop :=
  ∀ (v : Word) (s : State),
    (v = 3#32 → ∃ t, exec (.wrCmd v) s = .next t ∧ exec .softreset s = .next t) ∧
    (v ≠ 3#32 → s.busy = true → exec (.wrCmd v) s = .next s) ∧
    (s.busy = false → v = 1#32 → ∃ t, exec (.wrCmd v) s = .next t ∧ exec .validate s = .next t) ∧
    (s.busy = false → v = 2#32 → ∃ t, exec (.wrCmd v) s = .next t ∧ exec .discard s = .next t) ∧
    (s.busy = false → v ≠ 1#32 → v ≠ 2#32 → v ≠ 3#32 → exec (.wrCmd v) s = .next s)

/-- 41_commands.md R121: VALIDATE and DISCARD change nothing while BUSY, and beside VDONE only
SOFTRESET and RESET end a validation. -/
def Obligations.BusyIgnoresValidateAndDiscard : Prop :=
  (∀ s : State, s.busy = true →
    exec .validate s = .next s ∧ exec .discard s = .next s ∧
    exec (.wrCmd 1) s = .next s ∧ exec (.wrCmd 2) s = .next s) ∧
  ∀ (i : Instr) (s t : State), s.busy = true → exec i s = .next t →
    (t.busy = false ↔ endsValidation i = true)

/-- VALIDATE accepted (41_commands.md R122): BUSY is set, PEND is the validation's result, nothing
else of the spec's state changes. The statement leaves the model's own countdown `vcnt` open. -/
def Obligations.ValidateSetsBusyAndPendOnly : Prop :=
  ∀ s : State, s.busy = false →
    ∃ n, exec .validate s = .next { s with pend := validateResult s, busy := true, vcnt := n }

/-- The result VALIDATE saves when some candidate is accepted (42_validator.md R142, R144, R145, R147):
that of the first accepted one in capture order. -/
def Obligations.FirstAcceptedCandidateIsPending : Prop :=
  ∀ (s : State) (i : Nat), s.Inv → s.busy = false → FirstAccepted s i →
    ∃ t, exec .validate s = .next t ∧ t.pend.outcome = .accept ∧ Spells s (cand s i) t.pend.tag ∧
      (t.pend.rowbad = true ↔ RowMismatch s (cand s i)) ∧
      (t.pend.perrSeen = true ↔ ∃ j, j ≤ i ∧ RowMismatch s (cand s j))

/-- 42_validator.md R148: with no candidate accepted, and so with no marker at all, REJECT. -/
def Obligations.ExhaustionIsReject : Prop :=
  ∀ s : State, s.Inv → s.busy = false → NoneAccepted s →
    ∃ t, exec .validate s = .next t ∧ t.pend.outcome = .reject ∧ t.pend.rowbad = false ∧
      t.pend.tag = Vector.replicate 10 0 ∧
      (t.pend.perrSeen = true ↔ ∃ j, j < s.mcount ∧ RowMismatch s (cand s j))

/-- NOP and every reserved word change no state, in every STATE (41_commands.md R124, R127). -/
def Obligations.NopAndReservedWordsChangeNothing : Prop :=
  (∀ s : State, exec .nop s = .next s ∧ exec (.wrCmd 0) s = .next s) ∧
  (∀ (rsv : BitVec 24) (op : BitVec 8) (s : State), (Instr.cmdReserved rsv op).wf = true →
    exec (.cmdReserved rsv op) s = .next s) ∧
  ∀ w : Word, w ≠ 0 → w ≠ 1 → w ≠ 2 → w ≠ 3 →
    ∃ rsv op, decode (.command w) = .ok (.cmdReserved rsv op) ∧
      ∀ s : State, exec (.cmdReserved rsv op) s = .next s ∧ exec (.wrCmd w) s = .next s

/-- 41_commands.md R125. -/
def Obligations.DiscardIsAFrameReset : Prop :=
  ∀ s : State,
    (s.busy = false → exec .discard s = .next
      { s with ready := false, done := false, mcount := 0, marks := Vector.replicate 5 0,
               widx := 0, run := 0 }) ∧
    (s.busy = true → exec .discard s = .next s)

/-- SOFTRESET (41_commands.md R126), in every STATE: everything but BUF, CTRL and the front end; PEND
is discarded, and the statement leaves open what stands in it and in the model's countdown. -/
def Obligations.SoftresetKeepsBufCtrlAndFrontEnd : Prop :=
  ∀ s : State, ∃ n p, exec .softreset s = .next
    { s with busy := false, ready := false, done := false, mcount := 0,
             marks := Vector.replicate 5 0, widx := 0, run := 0, perr := false, outcome := .none,
             aperr := false, tag := Vector.replicate 10 0, pend := p, vcnt := n }

/-! ## VDONE and the validation as a whole -/

/-- VDONE (42_validator.md R149): not enabled while BUSY is 0; else BUSY is cleared, the pending
result applied, and the frame reset on both paths. The model's countdown is left open. -/
def Obligations.VdoneAppliesThePendingResult : Prop :=
  ∀ s : State,
    (s.busy = false → exec .vdone s = .next s) ∧
    (s.busy = true → s.pend.outcome = .accept → ∃ n, exec .vdone s = .next
      { s with busy := false, tag := s.pend.tag, aperr := s.pend.rowbad, perr := false,
               outcome := .accept, ready := false, done := false, mcount := 0,
               marks := Vector.replicate 5 0, widx := 0, run := 0, vcnt := n }) ∧
    (s.busy = true → s.pend.outcome = .reject → ∃ n, exec .vdone s = .next
      { s with busy := false, outcome := .reject,
               perr := if s.pend.perrSeen then true else s.perr,
               ready := false, done := false, mcount := 0,
               marks := Vector.replicate 5 0, widx := 0, run := 0, vcnt := n })

/-- Recovery (42_validator.md section 5): VALIDATE then VDONE over a first accepted candidate that
spells `h` gives ACCEPT and TAG = h. -/
def Obligations.AcceptedFrameIsRecovered : Prop :=
  ∀ (s : State) (i : Nat) (h : Vector Nibble 10), s.Inv → s.busy = false → FirstAccepted s i →
    Spells s (cand s i) h →
    ∃ t, execAll [.validate, .vdone] s = .next t ∧ t.outcome = .accept ∧ t.tag = h ∧
      t.perr = false ∧ (t.aperr = true ↔ RowMismatch s (cand s i)) ∧ stateNo t = 0

/-- Rejection (42_validator.md section 5): with every candidate failing, VALIDATE then VDONE gives
REJECT and leaves TAG and APERR; PERR is set if a mismatch was seen, else kept. -/
def Obligations.RejectedFrameLeavesTheTag : Prop :=
  ∀ s : State, s.Inv → s.busy = false → NoneAccepted s →
    ∃ t, execAll [.validate, .vdone] s = .next t ∧ t.outcome = .reject ∧ t.tag = s.tag ∧
      t.aperr = s.aperr ∧ stateNo t = 0 ∧
      (t.perr = true ↔ s.perr = true ∨ ∃ j, j < s.mcount ∧ RowMismatch s (cand s j))

/-- Acceptance reads only the candidates' 55 positions and CTRL.RPE (42_validator.md section 5): two
states that agree there, on the markers and on the parameters save equal results. -/
def Obligations.ResultReadsOnlyTheCandidates : Prop :=
  ∀ s s' t t' : State, s.busy = false → s'.busy = false → s'.params = s.params →
    s'.marks = s.marks → s'.mcount = s.mcount → s'.ctrl.rpe = s.ctrl.rpe →
    (∀ i off, i < s.mcount → off < 55 → at_ s' (cand s i + off) = at_ s (cand s i + off)) →
    exec .validate s = .next t → exec .validate s' = .next t' → t'.pend = t.pend

/-- 20_memory.md R64: from VALIDATE to VDONE nothing but SOFTRESET and RESET changes what the
validation reads, and the pending result stays as it was saved. -/
def Obligations.ValidationReadsAFrozenSnapshot : Prop :=
  (∀ (b : Bit) (s : State), s.busy = true → exec (.sample b) s = .next s) ∧
  (∀ s : State, s.busy = false → ∃ t, exec .validate s = .next t ∧ t.busy = true ∧
    t.pend = validateResult s) ∧
  ∀ (is : List Instr) (s : State), s.busy = true → (∀ i ∈ is, endsValidation i = false) →
    ∃ t, execAll is s = .next t ∧ t.busy = true ∧ t.pend = s.pend ∧ t.buf = s.buf ∧
      t.marks = s.marks ∧ t.mcount = s.mcount ∧ t.widx = s.widx ∧ t.run = s.run ∧
      t.ready = s.ready ∧ t.done = s.done

/-- With CTRL.RPE = 1 at VALIDATE no accepted frame has a row mismatch, so APERR ends 0
(10_state.md section 3, APERR). -/
def Obligations.EnforcedParityNeverAcceptsAMismatch : Prop :=
  ∀ (s : State) (is : List Instr) (t u : State), s.busy = false → s.ctrl.rpe = true →
    (∀ i ∈ is, endsValidation i = false) → execAll (.validate :: is) s = .next t →
    exec .vdone t = .next u → u.outcome = .accept → u.aperr = false

/-- PEND is never read while BUSY = 0 (10_state.md section 3, PEND): changing it there changes no
event's effect on anything else. -/
def Obligations.PendIsUnreadWhileNotBusy : Prop :=
  ∀ (i : Instr) (s : State) (p : Pend), s.busy = false →
    ∃ t q, exec i s = .next t ∧ exec i { s with pend := p } = .next { t with pend := q } ∧
      (t.busy = true → q = t.pend)

/-! ## Host access -/

/-- 43_host_access.md R170: a read returns the register and has no side effect. -/
def Obligations.ReadReturnsTheRegisterOnly : Prop :=
  ∀ (a : RegAddr) (s : State), exec (.rd a) s = .next { s with rdata := some (regRead a s) }

/-- 30_encoding.md R82: the fields of STATUS, with STATE as 10_state.md R37 derives it. -/
def Obligations.StatusFields : Prop :=
  ∀ s : State,
    (regRead 2 s).extractLsb' 0 2 =
      (if s.busy then 3#2 else if s.ready || s.done then 2#2 else if 0 < s.mcount then 1#2 else 0#2) ∧
    (regRead 2 s).getLsbD 2 = s.ready ∧ (regRead 2 s).getLsbD 3 = s.done ∧
    (regRead 2 s).getLsbD 4 = s.busy ∧ (regRead 2 s).getLsbD 5 = s.perr ∧
    (regRead 2 s).extractLsb' 6 2 =
      (match s.outcome with | .none => 0#2 | .accept => 1#2 | .reject => 2#2) ∧
    (regRead 2 s).getLsbD 8 = s.aperr ∧
    (regRead 2 s).extractLsb' 9 3 = BitVec.ofNat 3 s.mcount ∧
    (regRead 2 s).extractLsb' 12 4 = BitVec.ofNat 4 s.run ∧
    (regRead 2 s).extractLsb' 16 16 = BitVec.ofNat 16 s.widx ∧
    ∃ t, exec .reset s = .next t ∧ regRead 2 t = 0

/-- PARAM as a number (30_encoding.md section 3, PARAM), and its value with the defaults. -/
def Obligations.ParamReadsTheParameters : Prop :=
  (∀ s : State, s.params.wf → (regRead 3 s).toNat =
    s.params.runRestart.toNat * 2 ^ 22 + s.params.colIdx.val * 2 ^ 20 + s.params.nMark * 2 ^ 17 +
      s.params.bufCap) ∧
  regRead 3 State.reset = 0x005A0200#32

/-- 30_encoding.md R84: TAG_HI and TAG_LO as the 40-bit number {TAG[0], ..., TAG[9]}. -/
def Obligations.TagWordsAreTheTagNumber : Prop :=
  ∀ s : State,
    (regRead 4 s).toNat = s.tag[0].toNat * 16 + s.tag[1].toNat ∧
    (regRead 5 s).toNat =
      s.tag[2].toNat * 16 ^ 7 + s.tag[3].toNat * 16 ^ 6 + s.tag[4].toNat * 16 ^ 5 +
      s.tag[5].toNat * 16 ^ 4 + s.tag[6].toNat * 16 ^ 3 + s.tag[7].toNat * 16 ^ 2 +
      s.tag[8].toNat * 16 + s.tag[9].toNat ∧
    ∃ t, exec .reset s = .next t ∧ regRead 4 t = 0 ∧ regRead 5 t = 0

/-- 30_encoding.md R86, 10_state.md R38: character k is byte k mod 4 of register TXT0 + (k div 4),
an upper-case hexadecimal digit. -/
def Obligations.TextWordsAreTheHexDigits : Prop :=
  ∀ s : State,
    (∀ k : Fin 10,
      ((regRead (BitVec.ofNat 4 (6 + k.val / 4)) s).extractLsb' (8 * (k.val % 4)) 8).toNat =
        hexCode (s.tag[k]).toNat) ∧
    (regRead 8 s).extractLsb' 16 16 = 0 ∧
    ∃ t, exec .reset s = .next t ∧ regRead 6 t = 0x30303030#32 ∧ regRead 7 t = 0x30303030#32 ∧
      regRead 8 t = 0x00003030#32

/-- 30_encoding.md R87: MARK0 to MARK4, and that a slot at or beyond N_MARK reads 0. -/
def Obligations.MarkWordsAreTheMarkers : Prop :=
  ∀ s : State, s.Inv →
    (∀ i : Fin 5, (regRead (BitVec.ofNat 4 (9 + i.val)) s).toNat = s.marks[i]) ∧
    (∀ i : Fin 5, s.params.nMark ≤ i.val → regRead (BitVec.ofNat 4 (9 + i.val)) s = 0) ∧
    ∃ t, exec .reset s = .next t ∧
      ∀ i : Fin 5, regRead (BitVec.ofNat 4 (9 + i.val)) t = 0

/-- CMD and the unmapped words read 0 (30_encoding.md R81, R88), and writes to 14 and 15 change
nothing. -/
def Obligations.CmdAndUnmappedWordsReadZero : Prop :=
  ∀ (s : State) (v : Word), regRead 1 s = 0 ∧ regRead 14 s = 0 ∧ regRead 15 s = 0 ∧
    (∀ i, decode (.host (hostWord true false 14 v)) = .ok i → exec i s = .next s) ∧
    ∀ i, decode (.host (hostWord true false 15 v)) = .ok i → exec i s = .next s

/-- 43_host_access.md R173: CTRL takes the written bits in every STATE and nothing else changes, so a
validation in progress and the frame state stay; reading CTRL gives the two bits back. -/
def Obligations.WriteCtrlTakesTwoBits : Prop :=
  ∀ (v : Word) (s : State),
    exec (.wrCtrl v) s = .next { s with ctrl := ⟨v.getLsbD 0, v.getLsbD 1⟩ } ∧
    ∀ t, exec (.wrCtrl v) s = .next t → regRead 0 t = v &&& 3 ∧
      (v.getLsbD 0 = false → ∀ b, exec (.sample b) t = .next t)

/-- 43_host_access.md R174: a WR to words 2 to 15 changes no state, whichever row it is. -/
def Obligations.WritesToReadOnlyWordsAreIgnored : Prop :=
  (∀ (s : State) (v : Word),
    (∀ a, exec (.wrRoStatusParam a v) s = .next s) ∧ (∀ a, exec (.wrRoTagText a v) s = .next s) ∧
    ∀ a, exec (.wrRoMarks a v) s = .next s) ∧
  ∀ (a : RegAddr) (v : Word), 2 ≤ a.toNat →
    ∃ i, decode (.host (hostWord true false a v)) = .ok i ∧ i.mnemonic = "WR_RO" ∧
      ∀ s, exec i s = .next s

/-- 43_host_access.md R175: the reserved transaction performs the WR its address and data say and
returns 0. -/
def Obligations.ReservedTransactionWritesAndReturnsZero : Prop :=
  ∀ (a : RegAddr) (v : Word) (s : State),
    decode (.host (hostWord true true a v)) = .ok (.hostReserved11 a v) ∧
    ∃ i t, decode (.host (hostWord true false a v)) = .ok i ∧ exec i s = .next t ∧
      exec (.hostReserved11 a v) s = .next { t with rdata := some 0 }

/-! ## Reset -/

/-- RESET (70_reset_and_hazards.md R220): every element to its reset value, BUF kept, PEND discarded
(what then stands in it, and in the model's countdown, is left open). -/
def Obligations.ResetSetsEveryElementButBuf : Prop :=
  ∀ s : State, ∃ n p t, exec .reset s = .next t ∧
    t = { s with widx := 0, marks := Vector.replicate 5 0, mcount := 0, run := 0, ready := false,
                 done := false, busy := false, perr := false, aperr := false, outcome := .none,
                 tag := Vector.replicate 10 0, ctrl := ⟨true, s.params.rpeReset⟩,
                 fe := ⟨false, false, false, 0⟩, pend := p, vcnt := n } ∧
    regRead 2 t = 0 ∧ regRead 0 t = 1#32 ||| (BitVec.ofBool s.params.rpeReset).setWidth 32 <<< 1 ∧
    ∀ c : Cycle, c.rst = true → s.events = [] → runCycle c s = .next t

/-- 70_reset_and_hazards.md R222: a second RESET has no further effect, and after RESET the block is
IDLE and armed and writes its first sample at index 0. -/
def Obligations.OneResetIsComplete : Prop :=
  ∀ s t : State, exec .reset s = .next t →
    exec .reset t = .next t ∧ stateNo t = 0 ∧ t.ctrl.en = true ∧ t.busy = false ∧
    (s.Inv → ∀ b, ∃ u, exec (.sample b) t = .next u ∧ at_ u 0 = b ∧
      ∀ x, x % s.params.bufCap ≠ 0 → at_ u x = at_ s x)

/-! ## Encoding -/

/-- Decode and encode agree on every well-formed instruction, every operand at every value. -/
def Obligations.DecodeOfEncodeIsTheInstruction : Prop :=
  ∀ i : Instr, i.wf = true → decode (encode i) = .ok i

/-- The other direction: what decodes is well formed, and its word is the word read, but for RD,
whose `wdata` is ignored (30_encoding.md R72). -/
def Obligations.EncodeOfDecodeIsTheWord : Prop :=
  ∀ (w : PortWord) (i : Instr), decode w = .ok i →
    i.wf = true ∧
    ((∀ a, i ≠ .rd a) → encode i = w) ∧
    ∀ a, i = .rd a → ∃ v, w = .host (hostWord false true a v)

/-- Words written out from the spec's encodings (95_test_vectors.md section 8, 30_encoding.md R71,
R75). -/
def Obligations.WordsOfTheSpecDecode : Prop :=
  decode (.sample 0b11) = .ok (.sample true) ∧ decode (.sample 0b10) = .ok (.sample false) ∧
  decode (.host 0x1200000000) = .ok (.rd 2) ∧ decode (.host 0x2000000003) = .ok (.wrCtrl 3) ∧
  decode (.host 0x2100000001) = .ok (.wrCmd 1) ∧ decode (.host 0x2900000007) = .ok (.wrRoMarks 1 7) ∧
  decode (.host 0x3000000002) = .ok (.hostReserved11 0 2) ∧ decode (.command 1) = .ok .validate ∧
  decode (.command 0x101) = .ok (.cmdReserved 1 1) ∧ decode (.reset 1) = .ok .reset ∧
  decode (.sample 0b01) = .error .sampleNotValid

/-- The table's rows of format H and C decide the mnemonic: every host transaction matches exactly
one row and decodes to its mnemonic; a command word decodes to the first row it matches
(opcode_table.json, 30_encoding.md section 2). -/
def Obligations.OpcodeTableRowsDecode : Prop :=
  (∀ w : HostWord, w.getLsbD 37 = true ∨ w.getLsbD 36 = true →
    ∃ r ∈ hostRows, w &&& r.1 = r.2.1 ∧ (∀ r' ∈ hostRows, w &&& r'.1 = r'.2.1 → r' = r) ∧
      ∃ i, decode (.host w) = .ok i ∧ i.mnemonic = r.2.2) ∧
  ∀ w : Word, ∃ i, decode (.command w) = .ok i ∧
    (commandRows.find? fun r => w &&& r.1 == r.2.1).map (fun r => r.2.2) = some i.mnemonic

/-! ## The machine as a whole -/

/-- A step runs the decoded event: the next pending word is taken from the pending events and its
instruction executed; a word that is no event is taken and changes nothing else; with nothing
presented nothing changes (how events are held is the model's choice, log 6). -/
def Obligations.StepRunsTheDecodedEvent : Prop :=
  (∀ (s : State) (w : PortWord) (rest : List PortWord) (i : Instr), s.events = w :: rest →
    decode w = .ok i → step s = exec i { s with events := rest }) ∧
  (∀ (s : State) (w : PortWord) (rest : List PortWord) (e : NoEvent), s.events = w :: rest →
    decode w = .error e → step s = .next { s with events := rest }) ∧
  ∀ s : State, s.events = [] → s.cycles = [] → step s = .next s

/-- 60_exceptions.md R200: every event has an effect in every state, and no run of any length stops. -/
def Obligations.NoEventFaults : Prop :=
  (∀ (i : Instr) (s : State), ∃ t, exec i s = .next t) ∧ ∀ (n : Nat) (s : State), SafeRun n s

/-- No event changes the parameters (00_scope.md section 4) or the model's schedule (log 6, log 7). -/
def Obligations.EventsKeepParamsAndSchedule : Prop :=
  ∀ (i : Instr) (s t : State), exec i s = .next t → s.SameSchedule t

/-- The invariant holds after the reset of every instance with parameters in range, whatever BUF_INIT
is, and so at `State.reset`; parameters out of range are refused. -/
def Obligations.InvariantHoldsAfterReset : Prop :=
  (∀ (p : Params) (init : Nat → Bit), p.wf →
    instantiate p init = .next (State.afterReset p init) ∧ (State.afterReset p init).Inv) ∧
  (∀ (p : Params) (init : Nat → Bit), ¬ p.wf →
    instantiate p init = .refused .parameterOutOfRange) ∧
  State.reset.Inv

/-- The invariants of 10_state.md section 7 are kept by every step. -/
def Obligations.StepKeepsTheInvariant : Prop :=
  ∀ s t : State, s.Inv → step s = .next t → t.Inv

/-- APERR stays 0 until an ACCEPT completes (10_state.md section 7). -/
def Obligations.AperrStaysClearUntilAnAccept : Prop :=
  ∀ s t : State, s.aperr = false → s.outcome ≠ .accept → step s = .next t →
    t.outcome ≠ .accept → t.aperr = false

/-- Who writes TAG (10_state.md section 3, TAG; 70_reset_and_hazards.md section 3): an event that
changes it is a VDONE that accepts, or SOFTRESET or RESET, which clear it. -/
def Obligations.OnlyAcceptAndResetsWriteTheTag : Prop :=
  ∀ (i : Instr) (s t : State), exec i s = .next t → t.tag ≠ s.tag →
    (i = .vdone ∧ s.busy = true ∧ s.pend.outcome = .accept ∧ t.tag = s.pend.tag ∧
      t.outcome = .accept) ∨
    (i ≠ .vdone ∧ endsValidation i = true ∧ t.tag = Vector.replicate 10 0 ∧ t.outcome = .none)

/-- Who writes what (20_memory.md section 5, 10_state.md sections 4 and 6): an event that changes the
markers is a SAMPLE taken, or leaves the whole synchronizer reset with BUF kept; CTRL is written only
by the host and RESET; no event but RESET writes the front end's registers. -/
def Obligations.WritersOfMarkersCtrlAndFrontEnd : Prop :=
  ∀ (i : Instr) (s t : State), exec i s = .next t →
    (t.marks ≠ s.marks →
      ((∃ b, i = .sample b) ∧ Armed s) ∨
      (t.marks = Vector.replicate 5 0 ∧ t.mcount = 0 ∧ t.widx = 0 ∧ t.run = 0 ∧ t.ready = false ∧
        t.done = false ∧ t.busy = false ∧ t.buf = s.buf)) ∧
    (t.ctrl ≠ s.ctrl → i = .reset ∨ (∃ v, i = .wrCtrl v) ∨ ∃ v, i = .hostReserved11 0 v) ∧
    (t.fe ≠ s.fe → i = .reset)

/-! ## Clock cycles -/

/-- 60_exceptions.md R206: RESET alone; else whichever of SAMPLE, the host transaction and VDONE the
cycle presents, in this order, each seeing the effects of those before it. So a sample in the cycle of
a VALIDATE write is stored and validated, one in the cycle of VDONE is dropped, and a RD in the cycle of
VDONE returns the values before it. In which cycle VDONE falls, and the countdown, are the model's
choice (log 7). -/
def Obligations.SameCycleOrder : Prop :=
  (∀ (s : State) (c : Cycle), s.events = [] → c.rst = true → runCycle c s = exec .reset s) ∧
  (∀ (s : State) (c : Cycle), c.rst = false →
    runCycle c s = execAll (sampleOf s c ++ hostOf c ++ completionOf s) (atEdge s c)) ∧
  (∀ (s : State) (c : Cycle) (b : Bit), s.Inv → c.rst = false → sampleOf s c = [.sample b] →
    c.host = 0x2100000001 → Armed s →
    ∃ t u, runCycle c s = .next t ∧ t.busy = true ∧ at_ t s.widx = b ∧
      exec (.sample b) s = .next u ∧ t.pend = validateResult u) ∧
  ∀ (s : State) (c : Cycle), c.rst = false → s.busy = true →
    ∃ t, runCycle c s = .next t ∧ t.buf = s.buf ∧
      (s.vcnt ≤ 1 → t.busy = false ∧
        ∀ a, hostOf c = [.rd a] → t.rdata = some (regRead a s))

/-- A clock cycle is steps: the clock edge and then one step for each event it presents lead where
`runCycle` leads (the schedule is the model's choice, log 7). -/
def Obligations.CycleIsItsSteps : Prop :=
  ∀ (s : State) (c : Cycle) (rest : List Cycle), s.events = [] → s.cycles = c :: rest →
    Sys2Proof.core.run (1 + (cycleEvents c s).length) s = runCycle c { s with cycles := rest }

/-- 40_sampler.md R111, R112, R113, R114: what one clock cycle does to the front end, in every state
of CTRL.EN and BUSY, and the sample it presents. -/
def Obligations.FrontEndCycle : Prop :=
  ∀ (s : State) (c : Cycle) (rest : List Cycle), s.events = [] → s.cycles = c :: rest →
    c.rst = false → s.params.fePresent = true →
    ∃ t, step s = .next t ∧ t.fe.s1 = c.rfIn ∧ t.fe.s2 = s.fe.s1 ∧ t.fe.prev = s.fe.s2 ∧
      (s.fe.cnt = 0 → s.fe.s2 ≠ s.fe.prev → t.fe.cnt = s.params.sampleDelay) ∧
      (s.fe.cnt = 0 → s.fe.s2 = s.fe.prev → t.fe.cnt = 0) ∧
      (s.fe.cnt ≠ 0 → t.fe.cnt = s.fe.cnt - 1) ∧
      (s.fe.cnt = 1 → t.events.head? = some (encode (.sample s.fe.s2))) ∧
      (s.fe.cnt ≠ 1 → ∀ w, .sample w ∉ t.events)

/-- The sample comes SAMPLE_DELAY_CYCLES cycles after the cycle of the edge and not before, whatever
the line does meanwhile (40_sampler.md section 4). -/
def Obligations.SampleComesDelayCyclesAfterTheEdge : Prop :=
  ∀ (d : Nat) (f : FrontEnd) (rf : List Bit), 1 ≤ d → f.cnt = 0 → f.s2 ≠ f.prev →
    rf ≠ [] → rf.length ≤ d →
    ((feRun d f rf).presents.isSome = true ↔ rf.length = d)

/-- A line high from reset gives its edge in the third cycle after the reset cycle and one sample, a
1, SAMPLE_DELAY_CYCLES cycles later, and no other (70_reset_and_hazards.md section 3). -/
def Obligations.HighLineAfterResetGivesOneSample : Prop :=
  ∀ (d k : Nat), 1 ≤ d →
    ((feRun d ⟨false, false, false, 0⟩ (List.replicate k true)).edge = true ↔ k = 2) ∧
    (feRun d ⟨false, false, false, 0⟩ (List.replicate k true)).presents =
      if k = 2 + d then some true else none

/-- 30_encoding.md R73: the completion comes VALIDATE_LATENCY cycles after the VALIDATE that started
the validation, in cycles in which neither RESET nor the host acts. -/
def Obligations.CompletionComesAtTheLatency : Prop :=
  ∀ (s t : State) (cs : List Cycle), s.Inv → s.busy = false → exec .validate s = .next t →
    (∀ c ∈ cs, Quiet c) →
    (cs.length < s.params.validateLatency → ∃ u, runCycles cs t = .next u ∧ u.busy = true) ∧
    (cs.length = s.params.validateLatency →
      ∃ u, runCycles cs t = .next u ∧ u.busy = false ∧ u.outcome ≠ .none)

/-- Every validation ends within VALIDATE_LATENCY cycles, whatever the ports present
(42_validator.md R154). The countdown to VDONE, and the at most four steps of a cycle (the clock edge
and up to three events), are the model's choice (log 7). -/
def Obligations.EveryValidationEnds : Prop :=
  ∀ s : State, s.Inv → s.busy = true → s.events = [] → s.params.validateLatency ≤ s.cycles.length →
    ∃ n t, n ≤ 4 * s.params.validateLatency ∧ Sys2Proof.core.run n s = .next t ∧ t.busy = false

/-- With EN = 0 and no validation in progress only the host and the front end's own registers change
anything (60_exceptions.md R214). The model's countdown is left open. -/
def Obligations.DisabledBlockIsQuiescent : Prop :=
  ∀ (s : State) (cs : List Cycle), s.ctrl.en = false → s.busy = false → s.events = [] →
    (∀ c ∈ cs, Quiet c) →
    ∃ t n, runCycles cs s = .next t ∧ t = { s with fe := t.fe, vcnt := n }

/-! ## The frame from end to end -/

/-- The source's recovery property over the whole block (42_validator.md section 5, 00_scope.md
section 1): from an armed synchronizer with no marker, any zeros, then a frame of any ten
characters with bit-0 row parity, the monitored column bit 0 and the stop bit 0, then VALIDATE and
VDONE, give exactly those characters, for every parameter in range and every buffer contents. -/
def Obligations.SampledFrameIsRecovered : Prop :=
  ∀ (s : State) (n : Nat) (tag : Vector Nibble 10) (col : Vector Bit 4), s.Inv → Armed s →
    s.mcount = 0 → (s.run = 0 ∨ 0 < n) → col[s.params.colIdx] = false →
    ∃ t, execAll (samples (List.replicate n false ++ frameBits tag col false) ++
        [.validate, .vdone]) s = .next t ∧
      t.outcome = .accept ∧ t.tag = tag ∧ t.aperr = false ∧ t.perr = false ∧ stateNo t = 0
end

