-- ==== Sys2Proof/Laws/State.lean ====
section
/-! SUPPORT. One lemma per field per named update of State, each true by definition, so that no proof
unfolds a record update. -/

namespace Sys2Proof.Machine

/-! ## appendBit -/

@[simp] theorem appendBit_params (b : Bit) (s : State) :
    (appendBit b s).params = s.params := rfl
@[simp] theorem appendBit_buf (b : Bit) (s : State) :
    (appendBit b s).buf = s.buf.set s.widx b := rfl
@[simp] theorem appendBit_widx (b : Bit) (s : State) :
    (appendBit b s).widx = nextIdx s := rfl
@[simp] theorem appendBit_marks (b : Bit) (s : State) :
    (appendBit b s).marks = s.marks := rfl
@[simp] theorem appendBit_mcount (b : Bit) (s : State) :
    (appendBit b s).mcount = s.mcount := rfl
@[simp] theorem appendBit_run (b : Bit) (s : State) :
    (appendBit b s).run = s.run := rfl
@[simp] theorem appendBit_ready (b : Bit) (s : State) :
    (appendBit b s).ready = s.ready := rfl
@[simp] theorem appendBit_done (b : Bit) (s : State) :
    (appendBit b s).done = doneAfterAppend s := rfl
@[simp] theorem appendBit_busy (b : Bit) (s : State) :
    (appendBit b s).busy = s.busy := rfl
@[simp] theorem appendBit_pend (b : Bit) (s : State) :
    (appendBit b s).pend = s.pend := rfl
@[simp] theorem appendBit_perr (b : Bit) (s : State) :
    (appendBit b s).perr = s.perr := rfl
@[simp] theorem appendBit_outcome (b : Bit) (s : State) :
    (appendBit b s).outcome = s.outcome := rfl
@[simp] theorem appendBit_aperr (b : Bit) (s : State) :
    (appendBit b s).aperr = s.aperr := rfl
@[simp] theorem appendBit_tag (b : Bit) (s : State) :
    (appendBit b s).tag = s.tag := rfl
@[simp] theorem appendBit_ctrl (b : Bit) (s : State) :
    (appendBit b s).ctrl = s.ctrl := rfl
@[simp] theorem appendBit_fe (b : Bit) (s : State) :
    (appendBit b s).fe = s.fe := rfl
@[simp] theorem appendBit_vcnt (b : Bit) (s : State) :
    (appendBit b s).vcnt = s.vcnt := rfl
@[simp] theorem appendBit_rdata (b : Bit) (s : State) :
    (appendBit b s).rdata = s.rdata := rfl
@[simp] theorem appendBit_events (b : Bit) (s : State) :
    (appendBit b s).events = s.events := rfl
@[simp] theorem appendBit_cycles (b : Bit) (s : State) :
    (appendBit b s).cycles = s.cycles := rfl

/-! ## setRun -/

@[simp] theorem setRun_params (r : Nat) (s : State) :
    (setRun r s).params = s.params := rfl
@[simp] theorem setRun_buf (r : Nat) (s : State) :
    (setRun r s).buf = s.buf := rfl
@[simp] theorem setRun_widx (r : Nat) (s : State) :
    (setRun r s).widx = s.widx := rfl
@[simp] theorem setRun_marks (r : Nat) (s : State) :
    (setRun r s).marks = s.marks := rfl
@[simp] theorem setRun_mcount (r : Nat) (s : State) :
    (setRun r s).mcount = s.mcount := rfl
@[simp] theorem setRun_run (r : Nat) (s : State) :
    (setRun r s).run = r := rfl
@[simp] theorem setRun_ready (r : Nat) (s : State) :
    (setRun r s).ready = s.ready := rfl
@[simp] theorem setRun_done (r : Nat) (s : State) :
    (setRun r s).done = s.done := rfl
@[simp] theorem setRun_busy (r : Nat) (s : State) :
    (setRun r s).busy = s.busy := rfl
@[simp] theorem setRun_pend (r : Nat) (s : State) :
    (setRun r s).pend = s.pend := rfl
@[simp] theorem setRun_perr (r : Nat) (s : State) :
    (setRun r s).perr = s.perr := rfl
@[simp] theorem setRun_outcome (r : Nat) (s : State) :
    (setRun r s).outcome = s.outcome := rfl
@[simp] theorem setRun_aperr (r : Nat) (s : State) :
    (setRun r s).aperr = s.aperr := rfl
@[simp] theorem setRun_tag (r : Nat) (s : State) :
    (setRun r s).tag = s.tag := rfl
@[simp] theorem setRun_ctrl (r : Nat) (s : State) :
    (setRun r s).ctrl = s.ctrl := rfl
@[simp] theorem setRun_fe (r : Nat) (s : State) :
    (setRun r s).fe = s.fe := rfl
@[simp] theorem setRun_vcnt (r : Nat) (s : State) :
    (setRun r s).vcnt = s.vcnt := rfl
@[simp] theorem setRun_rdata (r : Nat) (s : State) :
    (setRun r s).rdata = s.rdata := rfl
@[simp] theorem setRun_events (r : Nat) (s : State) :
    (setRun r s).events = s.events := rfl
@[simp] theorem setRun_cycles (r : Nat) (s : State) :
    (setRun r s).cycles = s.cycles := rfl

/-! ## frameReset -/

@[simp] theorem frameReset_params (s : State) :
    (frameReset s).params = s.params := rfl
@[simp] theorem frameReset_buf (s : State) :
    (frameReset s).buf = s.buf := rfl
@[simp] theorem frameReset_widx (s : State) :
    (frameReset s).widx = 0 := rfl
@[simp] theorem frameReset_marks (s : State) :
    (frameReset s).marks = Vector.replicate 5 0 := rfl
@[simp] theorem frameReset_mcount (s : State) :
    (frameReset s).mcount = 0 := rfl
@[simp] theorem frameReset_run (s : State) :
    (frameReset s).run = 0 := rfl
@[simp] theorem frameReset_ready (s : State) :
    (frameReset s).ready = false := rfl
@[simp] theorem frameReset_done (s : State) :
    (frameReset s).done = false := rfl
@[simp] theorem frameReset_busy (s : State) :
    (frameReset s).busy = s.busy := rfl
@[simp] theorem frameReset_pend (s : State) :
    (frameReset s).pend = s.pend := rfl
@[simp] theorem frameReset_perr (s : State) :
    (frameReset s).perr = s.perr := rfl
@[simp] theorem frameReset_outcome (s : State) :
    (frameReset s).outcome = s.outcome := rfl
@[simp] theorem frameReset_aperr (s : State) :
    (frameReset s).aperr = s.aperr := rfl
@[simp] theorem frameReset_tag (s : State) :
    (frameReset s).tag = s.tag := rfl
@[simp] theorem frameReset_ctrl (s : State) :
    (frameReset s).ctrl = s.ctrl := rfl
@[simp] theorem frameReset_fe (s : State) :
    (frameReset s).fe = s.fe := rfl
@[simp] theorem frameReset_vcnt (s : State) :
    (frameReset s).vcnt = s.vcnt := rfl
@[simp] theorem frameReset_rdata (s : State) :
    (frameReset s).rdata = s.rdata := rfl
@[simp] theorem frameReset_events (s : State) :
    (frameReset s).events = s.events := rfl
@[simp] theorem frameReset_cycles (s : State) :
    (frameReset s).cycles = s.cycles := rfl

/-! ## clearBusy -/

@[simp] theorem clearBusy_params (s : State) :
    (clearBusy s).params = s.params := rfl
@[simp] theorem clearBusy_buf (s : State) :
    (clearBusy s).buf = s.buf := rfl
@[simp] theorem clearBusy_widx (s : State) :
    (clearBusy s).widx = s.widx := rfl
@[simp] theorem clearBusy_marks (s : State) :
    (clearBusy s).marks = s.marks := rfl
@[simp] theorem clearBusy_mcount (s : State) :
    (clearBusy s).mcount = s.mcount := rfl
@[simp] theorem clearBusy_run (s : State) :
    (clearBusy s).run = s.run := rfl
@[simp] theorem clearBusy_ready (s : State) :
    (clearBusy s).ready = s.ready := rfl
@[simp] theorem clearBusy_done (s : State) :
    (clearBusy s).done = s.done := rfl
@[simp] theorem clearBusy_busy (s : State) :
    (clearBusy s).busy = false := rfl
@[simp] theorem clearBusy_pend (s : State) :
    (clearBusy s).pend = s.pend := rfl
@[simp] theorem clearBusy_perr (s : State) :
    (clearBusy s).perr = s.perr := rfl
@[simp] theorem clearBusy_outcome (s : State) :
    (clearBusy s).outcome = s.outcome := rfl
@[simp] theorem clearBusy_aperr (s : State) :
    (clearBusy s).aperr = s.aperr := rfl
@[simp] theorem clearBusy_tag (s : State) :
    (clearBusy s).tag = s.tag := rfl
@[simp] theorem clearBusy_ctrl (s : State) :
    (clearBusy s).ctrl = s.ctrl := rfl
@[simp] theorem clearBusy_fe (s : State) :
    (clearBusy s).fe = s.fe := rfl
@[simp] theorem clearBusy_vcnt (s : State) :
    (clearBusy s).vcnt = 0 := rfl
@[simp] theorem clearBusy_rdata (s : State) :
    (clearBusy s).rdata = s.rdata := rfl
@[simp] theorem clearBusy_events (s : State) :
    (clearBusy s).events = s.events := rfl
@[simp] theorem clearBusy_cycles (s : State) :
    (clearBusy s).cycles = s.cycles := rfl

/-! ## clearResults -/

@[simp] theorem clearResults_params (s : State) :
    (clearResults s).params = s.params := rfl
@[simp] theorem clearResults_buf (s : State) :
    (clearResults s).buf = s.buf := rfl
@[simp] theorem clearResults_widx (s : State) :
    (clearResults s).widx = s.widx := rfl
@[simp] theorem clearResults_marks (s : State) :
    (clearResults s).marks = s.marks := rfl
@[simp] theorem clearResults_mcount (s : State) :
    (clearResults s).mcount = s.mcount := rfl
@[simp] theorem clearResults_run (s : State) :
    (clearResults s).run = s.run := rfl
@[simp] theorem clearResults_ready (s : State) :
    (clearResults s).ready = s.ready := rfl
@[simp] theorem clearResults_done (s : State) :
    (clearResults s).done = s.done := rfl
@[simp] theorem clearResults_busy (s : State) :
    (clearResults s).busy = s.busy := rfl
@[simp] theorem clearResults_pend (s : State) :
    (clearResults s).pend = Pend.cleared := rfl
@[simp] theorem clearResults_perr (s : State) :
    (clearResults s).perr = false := rfl
@[simp] theorem clearResults_outcome (s : State) :
    (clearResults s).outcome = .none := rfl
@[simp] theorem clearResults_aperr (s : State) :
    (clearResults s).aperr = false := rfl
@[simp] theorem clearResults_tag (s : State) :
    (clearResults s).tag = Vector.replicate 10 0 := rfl
@[simp] theorem clearResults_ctrl (s : State) :
    (clearResults s).ctrl = s.ctrl := rfl
@[simp] theorem clearResults_fe (s : State) :
    (clearResults s).fe = s.fe := rfl
@[simp] theorem clearResults_vcnt (s : State) :
    (clearResults s).vcnt = s.vcnt := rfl
@[simp] theorem clearResults_rdata (s : State) :
    (clearResults s).rdata = s.rdata := rfl
@[simp] theorem clearResults_events (s : State) :
    (clearResults s).events = s.events := rfl
@[simp] theorem clearResults_cycles (s : State) :
    (clearResults s).cycles = s.cycles := rfl

/-! ## hardReset -/

@[simp] theorem hardReset_params (s : State) :
    (hardReset s).params = s.params := rfl
@[simp] theorem hardReset_buf (s : State) :
    (hardReset s).buf = s.buf := rfl
@[simp] theorem hardReset_widx (s : State) :
    (hardReset s).widx = 0 := rfl
@[simp] theorem hardReset_marks (s : State) :
    (hardReset s).marks = Vector.replicate 5 0 := rfl
@[simp] theorem hardReset_mcount (s : State) :
    (hardReset s).mcount = 0 := rfl
@[simp] theorem hardReset_run (s : State) :
    (hardReset s).run = 0 := rfl
@[simp] theorem hardReset_ready (s : State) :
    (hardReset s).ready = false := rfl
@[simp] theorem hardReset_done (s : State) :
    (hardReset s).done = false := rfl
@[simp] theorem hardReset_busy (s : State) :
    (hardReset s).busy = false := rfl
@[simp] theorem hardReset_pend (s : State) :
    (hardReset s).pend = Pend.cleared := rfl
@[simp] theorem hardReset_perr (s : State) :
    (hardReset s).perr = false := rfl
@[simp] theorem hardReset_outcome (s : State) :
    (hardReset s).outcome = .none := rfl
@[simp] theorem hardReset_aperr (s : State) :
    (hardReset s).aperr = false := rfl
@[simp] theorem hardReset_tag (s : State) :
    (hardReset s).tag = Vector.replicate 10 0 := rfl
@[simp] theorem hardReset_ctrl (s : State) :
    (hardReset s).ctrl = ⟨true, s.params.rpeReset⟩ := rfl
@[simp] theorem hardReset_fe (s : State) :
    (hardReset s).fe = FrontEnd.cleared := rfl
@[simp] theorem hardReset_vcnt (s : State) :
    (hardReset s).vcnt = 0 := rfl
@[simp] theorem hardReset_rdata (s : State) :
    (hardReset s).rdata = s.rdata := rfl
@[simp] theorem hardReset_events (s : State) :
    (hardReset s).events = s.events := rfl
@[simp] theorem hardReset_cycles (s : State) :
    (hardReset s).cycles = s.cycles := rfl

/-! ## returnData -/

@[simp] theorem returnData_params (v : Word) (s : State) :
    (returnData v s).params = s.params := rfl
@[simp] theorem returnData_buf (v : Word) (s : State) :
    (returnData v s).buf = s.buf := rfl
@[simp] theorem returnData_widx (v : Word) (s : State) :
    (returnData v s).widx = s.widx := rfl
@[simp] theorem returnData_marks (v : Word) (s : State) :
    (returnData v s).marks = s.marks := rfl
@[simp] theorem returnData_mcount (v : Word) (s : State) :
    (returnData v s).mcount = s.mcount := rfl
@[simp] theorem returnData_run (v : Word) (s : State) :
    (returnData v s).run = s.run := rfl
@[simp] theorem returnData_ready (v : Word) (s : State) :
    (returnData v s).ready = s.ready := rfl
@[simp] theorem returnData_done (v : Word) (s : State) :
    (returnData v s).done = s.done := rfl
@[simp] theorem returnData_busy (v : Word) (s : State) :
    (returnData v s).busy = s.busy := rfl
@[simp] theorem returnData_pend (v : Word) (s : State) :
    (returnData v s).pend = s.pend := rfl
@[simp] theorem returnData_perr (v : Word) (s : State) :
    (returnData v s).perr = s.perr := rfl
@[simp] theorem returnData_outcome (v : Word) (s : State) :
    (returnData v s).outcome = s.outcome := rfl
@[simp] theorem returnData_aperr (v : Word) (s : State) :
    (returnData v s).aperr = s.aperr := rfl
@[simp] theorem returnData_tag (v : Word) (s : State) :
    (returnData v s).tag = s.tag := rfl
@[simp] theorem returnData_ctrl (v : Word) (s : State) :
    (returnData v s).ctrl = s.ctrl := rfl
@[simp] theorem returnData_fe (v : Word) (s : State) :
    (returnData v s).fe = s.fe := rfl
@[simp] theorem returnData_vcnt (v : Word) (s : State) :
    (returnData v s).vcnt = s.vcnt := rfl
@[simp] theorem returnData_rdata (v : Word) (s : State) :
    (returnData v s).rdata = some v := rfl
@[simp] theorem returnData_events (v : Word) (s : State) :
    (returnData v s).events = s.events := rfl
@[simp] theorem returnData_cycles (v : Word) (s : State) :
    (returnData v s).cycles = s.cycles := rfl

/-! ## writeCtrl -/

@[simp] theorem writeCtrl_params (v : Word) (s : State) :
    (writeCtrl v s).params = s.params := rfl
@[simp] theorem writeCtrl_buf (v : Word) (s : State) :
    (writeCtrl v s).buf = s.buf := rfl
@[simp] theorem writeCtrl_widx (v : Word) (s : State) :
    (writeCtrl v s).widx = s.widx := rfl
@[simp] theorem writeCtrl_marks (v : Word) (s : State) :
    (writeCtrl v s).marks = s.marks := rfl
@[simp] theorem writeCtrl_mcount (v : Word) (s : State) :
    (writeCtrl v s).mcount = s.mcount := rfl
@[simp] theorem writeCtrl_run (v : Word) (s : State) :
    (writeCtrl v s).run = s.run := rfl
@[simp] theorem writeCtrl_ready (v : Word) (s : State) :
    (writeCtrl v s).ready = s.ready := rfl
@[simp] theorem writeCtrl_done (v : Word) (s : State) :
    (writeCtrl v s).done = s.done := rfl
@[simp] theorem writeCtrl_busy (v : Word) (s : State) :
    (writeCtrl v s).busy = s.busy := rfl
@[simp] theorem writeCtrl_pend (v : Word) (s : State) :
    (writeCtrl v s).pend = s.pend := rfl
@[simp] theorem writeCtrl_perr (v : Word) (s : State) :
    (writeCtrl v s).perr = s.perr := rfl
@[simp] theorem writeCtrl_outcome (v : Word) (s : State) :
    (writeCtrl v s).outcome = s.outcome := rfl
@[simp] theorem writeCtrl_aperr (v : Word) (s : State) :
    (writeCtrl v s).aperr = s.aperr := rfl
@[simp] theorem writeCtrl_tag (v : Word) (s : State) :
    (writeCtrl v s).tag = s.tag := rfl
@[simp] theorem writeCtrl_ctrl (v : Word) (s : State) :
    (writeCtrl v s).ctrl = ctrlOfWord v := rfl
@[simp] theorem writeCtrl_fe (v : Word) (s : State) :
    (writeCtrl v s).fe = s.fe := rfl
@[simp] theorem writeCtrl_vcnt (v : Word) (s : State) :
    (writeCtrl v s).vcnt = s.vcnt := rfl
@[simp] theorem writeCtrl_rdata (v : Word) (s : State) :
    (writeCtrl v s).rdata = s.rdata := rfl
@[simp] theorem writeCtrl_events (v : Word) (s : State) :
    (writeCtrl v s).events = s.events := rfl
@[simp] theorem writeCtrl_cycles (v : Word) (s : State) :
    (writeCtrl v s).cycles = s.cycles := rfl

/-! ## presentNext -/

@[simp] theorem presentNext_params (w : PortWord) (s : State) :
    (presentNext w s).params = s.params := rfl
@[simp] theorem presentNext_buf (w : PortWord) (s : State) :
    (presentNext w s).buf = s.buf := rfl
@[simp] theorem presentNext_widx (w : PortWord) (s : State) :
    (presentNext w s).widx = s.widx := rfl
@[simp] theorem presentNext_marks (w : PortWord) (s : State) :
    (presentNext w s).marks = s.marks := rfl
@[simp] theorem presentNext_mcount (w : PortWord) (s : State) :
    (presentNext w s).mcount = s.mcount := rfl
@[simp] theorem presentNext_run (w : PortWord) (s : State) :
    (presentNext w s).run = s.run := rfl
@[simp] theorem presentNext_ready (w : PortWord) (s : State) :
    (presentNext w s).ready = s.ready := rfl
@[simp] theorem presentNext_done (w : PortWord) (s : State) :
    (presentNext w s).done = s.done := rfl
@[simp] theorem presentNext_busy (w : PortWord) (s : State) :
    (presentNext w s).busy = s.busy := rfl
@[simp] theorem presentNext_pend (w : PortWord) (s : State) :
    (presentNext w s).pend = s.pend := rfl
@[simp] theorem presentNext_perr (w : PortWord) (s : State) :
    (presentNext w s).perr = s.perr := rfl
@[simp] theorem presentNext_outcome (w : PortWord) (s : State) :
    (presentNext w s).outcome = s.outcome := rfl
@[simp] theorem presentNext_aperr (w : PortWord) (s : State) :
    (presentNext w s).aperr = s.aperr := rfl
@[simp] theorem presentNext_tag (w : PortWord) (s : State) :
    (presentNext w s).tag = s.tag := rfl
@[simp] theorem presentNext_ctrl (w : PortWord) (s : State) :
    (presentNext w s).ctrl = s.ctrl := rfl
@[simp] theorem presentNext_fe (w : PortWord) (s : State) :
    (presentNext w s).fe = s.fe := rfl
@[simp] theorem presentNext_vcnt (w : PortWord) (s : State) :
    (presentNext w s).vcnt = s.vcnt := rfl
@[simp] theorem presentNext_rdata (w : PortWord) (s : State) :
    (presentNext w s).rdata = s.rdata := rfl
@[simp] theorem presentNext_events (w : PortWord) (s : State) :
    (presentNext w s).events = w :: s.events := rfl
@[simp] theorem presentNext_cycles (w : PortWord) (s : State) :
    (presentNext w s).cycles = s.cycles := rfl

/-! ## setEvents -/

@[simp] theorem setEvents_params (ws : List PortWord) (s : State) :
    (setEvents ws s).params = s.params := rfl
@[simp] theorem setEvents_buf (ws : List PortWord) (s : State) :
    (setEvents ws s).buf = s.buf := rfl
@[simp] theorem setEvents_widx (ws : List PortWord) (s : State) :
    (setEvents ws s).widx = s.widx := rfl
@[simp] theorem setEvents_marks (ws : List PortWord) (s : State) :
    (setEvents ws s).marks = s.marks := rfl
@[simp] theorem setEvents_mcount (ws : List PortWord) (s : State) :
    (setEvents ws s).mcount = s.mcount := rfl
@[simp] theorem setEvents_run (ws : List PortWord) (s : State) :
    (setEvents ws s).run = s.run := rfl
@[simp] theorem setEvents_ready (ws : List PortWord) (s : State) :
    (setEvents ws s).ready = s.ready := rfl
@[simp] theorem setEvents_done (ws : List PortWord) (s : State) :
    (setEvents ws s).done = s.done := rfl
@[simp] theorem setEvents_busy (ws : List PortWord) (s : State) :
    (setEvents ws s).busy = s.busy := rfl
@[simp] theorem setEvents_pend (ws : List PortWord) (s : State) :
    (setEvents ws s).pend = s.pend := rfl
@[simp] theorem setEvents_perr (ws : List PortWord) (s : State) :
    (setEvents ws s).perr = s.perr := rfl
@[simp] theorem setEvents_outcome (ws : List PortWord) (s : State) :
    (setEvents ws s).outcome = s.outcome := rfl
@[simp] theorem setEvents_aperr (ws : List PortWord) (s : State) :
    (setEvents ws s).aperr = s.aperr := rfl
@[simp] theorem setEvents_tag (ws : List PortWord) (s : State) :
    (setEvents ws s).tag = s.tag := rfl
@[simp] theorem setEvents_ctrl (ws : List PortWord) (s : State) :
    (setEvents ws s).ctrl = s.ctrl := rfl
@[simp] theorem setEvents_fe (ws : List PortWord) (s : State) :
    (setEvents ws s).fe = s.fe := rfl
@[simp] theorem setEvents_vcnt (ws : List PortWord) (s : State) :
    (setEvents ws s).vcnt = s.vcnt := rfl
@[simp] theorem setEvents_rdata (ws : List PortWord) (s : State) :
    (setEvents ws s).rdata = s.rdata := rfl
@[simp] theorem setEvents_events (ws : List PortWord) (s : State) :
    (setEvents ws s).events = ws := rfl
@[simp] theorem setEvents_cycles (ws : List PortWord) (s : State) :
    (setEvents ws s).cycles = s.cycles := rfl

/-! ## setCycles -/

@[simp] theorem setCycles_params (cs : List Cycle) (s : State) :
    (setCycles cs s).params = s.params := rfl
@[simp] theorem setCycles_buf (cs : List Cycle) (s : State) :
    (setCycles cs s).buf = s.buf := rfl
@[simp] theorem setCycles_widx (cs : List Cycle) (s : State) :
    (setCycles cs s).widx = s.widx := rfl
@[simp] theorem setCycles_marks (cs : List Cycle) (s : State) :
    (setCycles cs s).marks = s.marks := rfl
@[simp] theorem setCycles_mcount (cs : List Cycle) (s : State) :
    (setCycles cs s).mcount = s.mcount := rfl
@[simp] theorem setCycles_run (cs : List Cycle) (s : State) :
    (setCycles cs s).run = s.run := rfl
@[simp] theorem setCycles_ready (cs : List Cycle) (s : State) :
    (setCycles cs s).ready = s.ready := rfl
@[simp] theorem setCycles_done (cs : List Cycle) (s : State) :
    (setCycles cs s).done = s.done := rfl
@[simp] theorem setCycles_busy (cs : List Cycle) (s : State) :
    (setCycles cs s).busy = s.busy := rfl
@[simp] theorem setCycles_pend (cs : List Cycle) (s : State) :
    (setCycles cs s).pend = s.pend := rfl
@[simp] theorem setCycles_perr (cs : List Cycle) (s : State) :
    (setCycles cs s).perr = s.perr := rfl
@[simp] theorem setCycles_outcome (cs : List Cycle) (s : State) :
    (setCycles cs s).outcome = s.outcome := rfl
@[simp] theorem setCycles_aperr (cs : List Cycle) (s : State) :
    (setCycles cs s).aperr = s.aperr := rfl
@[simp] theorem setCycles_tag (cs : List Cycle) (s : State) :
    (setCycles cs s).tag = s.tag := rfl
@[simp] theorem setCycles_ctrl (cs : List Cycle) (s : State) :
    (setCycles cs s).ctrl = s.ctrl := rfl
@[simp] theorem setCycles_fe (cs : List Cycle) (s : State) :
    (setCycles cs s).fe = s.fe := rfl
@[simp] theorem setCycles_vcnt (cs : List Cycle) (s : State) :
    (setCycles cs s).vcnt = s.vcnt := rfl
@[simp] theorem setCycles_rdata (cs : List Cycle) (s : State) :
    (setCycles cs s).rdata = s.rdata := rfl
@[simp] theorem setCycles_events (cs : List Cycle) (s : State) :
    (setCycles cs s).events = s.events := rfl
@[simp] theorem setCycles_cycles (cs : List Cycle) (s : State) :
    (setCycles cs s).cycles = cs := rfl

/-! ## tickRegisters -/

@[simp] theorem tickRegisters_params (c : Cycle) (s : State) :
    (tickRegisters c s).params = s.params := rfl
@[simp] theorem tickRegisters_buf (c : Cycle) (s : State) :
    (tickRegisters c s).buf = s.buf := rfl
@[simp] theorem tickRegisters_widx (c : Cycle) (s : State) :
    (tickRegisters c s).widx = s.widx := rfl
@[simp] theorem tickRegisters_marks (c : Cycle) (s : State) :
    (tickRegisters c s).marks = s.marks := rfl
@[simp] theorem tickRegisters_mcount (c : Cycle) (s : State) :
    (tickRegisters c s).mcount = s.mcount := rfl
@[simp] theorem tickRegisters_run (c : Cycle) (s : State) :
    (tickRegisters c s).run = s.run := rfl
@[simp] theorem tickRegisters_ready (c : Cycle) (s : State) :
    (tickRegisters c s).ready = s.ready := rfl
@[simp] theorem tickRegisters_done (c : Cycle) (s : State) :
    (tickRegisters c s).done = s.done := rfl
@[simp] theorem tickRegisters_busy (c : Cycle) (s : State) :
    (tickRegisters c s).busy = s.busy := rfl
@[simp] theorem tickRegisters_pend (c : Cycle) (s : State) :
    (tickRegisters c s).pend = s.pend := rfl
@[simp] theorem tickRegisters_perr (c : Cycle) (s : State) :
    (tickRegisters c s).perr = s.perr := rfl
@[simp] theorem tickRegisters_outcome (c : Cycle) (s : State) :
    (tickRegisters c s).outcome = s.outcome := rfl
@[simp] theorem tickRegisters_aperr (c : Cycle) (s : State) :
    (tickRegisters c s).aperr = s.aperr := rfl
@[simp] theorem tickRegisters_tag (c : Cycle) (s : State) :
    (tickRegisters c s).tag = s.tag := rfl
@[simp] theorem tickRegisters_ctrl (c : Cycle) (s : State) :
    (tickRegisters c s).ctrl = s.ctrl := rfl
@[simp] theorem tickRegisters_fe (c : Cycle) (s : State) :
    (tickRegisters c s).fe = if s.params.fePresent then s.fe.tick s.params.sampleDelay c.rfIn else s.fe := rfl
@[simp] theorem tickRegisters_vcnt (c : Cycle) (s : State) :
    (tickRegisters c s).vcnt = s.vcnt - 1 := rfl
@[simp] theorem tickRegisters_rdata (c : Cycle) (s : State) :
    (tickRegisters c s).rdata = s.rdata := rfl
@[simp] theorem tickRegisters_events (c : Cycle) (s : State) :
    (tickRegisters c s).events = s.events := rfl
@[simp] theorem tickRegisters_cycles (c : Cycle) (s : State) :
    (tickRegisters c s).cycles = s.cycles := rfl

end Sys2Proof.Machine
end

