-- ==== Sys2Proof/Laws/Ops.lean ====
section
/-! SUPPORT. One lemma per case of each shared operation, and what every event does to the outcome and
the schedule. -/

namespace Sys2Proof.Machine

/-! ## The buffer -/

@[simp] theorem fillBuf_length (init : Nat → Bit) (start n : Nat) :
    (fillBuf init start n).length = n := by
  induction n generalizing start with
  | zero => rfl
  | succ n ih => simp [fillBuf, ih]

theorem fillBuf_getElem? (init : Nat → Bit) (start n i : Nat) (h : i < n) :
    (fillBuf init start n)[i]? = some (init (start + i)) := by
  induction n generalizing start i with
  | zero => omega
  | succ n ih =>
    cases i with
    | zero => simp [fillBuf]
    | succ i =>
      have := ih (start + 1) i (by omega)
      simpa [fillBuf, Nat.add_comm, Nat.add_left_comm] using this

theorem Memory.wf_iff (s : State) : Memory.wf s = true ↔ s.buf.length = s.params.bufCap := by
  simp [Memory.wf]

/-- The one operation that writes the buffer keeps its form. -/
@[simp] theorem appendBit_wf (b : Bit) (s : State) : Memory.wf (appendBit b s) = Memory.wf s := by
  simp [Memory.wf]

/-- The buffer has its form after reset. -/
theorem afterReset_wf (p : Params) (init : Nat → Bit) : Memory.wf (State.afterReset p init) = true := by
  simp [Memory.wf, State.afterReset]

theorem reset_wf : Memory.wf State.reset = true := afterReset_wf _ _

/-- Reading where a sample was just written. -/
theorem bufRead_set_same (buf : List Bit) (cap i : Nat) (b : Bit) (hi : i < cap)
    (hl : buf.length = cap) : bufRead (buf.set i b) cap i = b := by
  simp [bufRead, List.getD_eq_getElem?_getD, Nat.mod_eq_of_lt hi, hl, hi]

/-- Reading anywhere else. -/
theorem bufRead_set_other (buf : List Bit) (cap i x : Nat) (b : Bit) (hx : x % cap ≠ i) :
    bufRead (buf.set i b) cap x = bufRead buf cap x := by
  simp [bufRead, List.getD_eq_getElem?_getD, List.getElem?_set_ne (Ne.symm hx)]

/-! ## The sampler -/

theorem takeSample_masked (b : Bit) (s : State) (h : samplerMasked s = true) :
    takeSample b s = s := by simp [takeSample, h]

theorem takeSample_accepted (b : Bit) (s : State) (h : samplerMasked s = false) :
    takeSample b s = detect b (nextIdx s) (appendBit b s) := by simp [takeSample, h]

theorem samplerMasked_eq_false (s : State) :
    samplerMasked s = false ↔ s.busy = false ∧ s.ctrl.en = true := by
  simp [samplerMasked]

theorem samplerMasked_eq_true (s : State) :
    samplerMasked s = true ↔ s.busy = true ∨ s.ctrl.en = false := by
  simp [samplerMasked]

theorem recordMark_open (w : Nat) (s : State) (h : s.mcount < s.params.nMark) :
    recordMark w s =
      { s with marks := s.marks.setIfInBounds s.mcount w, mcount := s.mcount + 1,
               ready := readyAfterMark s } := by simp [recordMark, h]

theorem recordMark_full (w : Nat) (s : State) (h : ¬ s.mcount < s.params.nMark) :
    recordMark w s = s := by simp [recordMark, h]

theorem detect_zero (w : Nat) (s : State) : detect false w s = setRun 0 s := rfl

theorem detect_ninth (w : Nat) (s : State) (h : s.run = 8) :
    detect true w s = setRun (if s.params.runRestart then 0 else 9) (recordMark w s) := by
  simp [detect, h]

theorem detect_held (w : Nat) (s : State) (h : s.run = 9) : detect true w s = setRun 9 s := by
  simp [detect, h]

theorem detect_counted (w : Nat) (s : State) (h8 : s.run ≠ 8) (h9 : s.run ≠ 9) :
    detect true w s = setRun (s.run + 1) s := by
  simp only [detect, if_true]
  rw [if_neg (by omega), if_neg (by omega)]

/-- Everything the detector can do: RUN always, the markers only at the ninth one with room. -/
theorem detect_cases (b : Bit) (w : Nat) (s : State) :
    ∃ m c r y, detect b w s = { s with marks := m, mcount := c, run := r, ready := y } ∧
      ((m = s.marks ∧ c = s.mcount ∧ y = s.ready) ∨
        (b = true ∧ s.run = 8 ∧ s.mcount < s.params.nMark ∧
          m = s.marks.setIfInBounds s.mcount w ∧ c = s.mcount + 1 ∧ y = readyAfterMark s)) := by
  unfold detect setRun recordMark
  split
  · split
    · split
      · refine ⟨_, _, _, _, rfl, .inr ?_⟩
        simp_all
      · exact ⟨s.marks, s.mcount, _, s.ready, rfl, .inl ⟨rfl, rfl, rfl⟩⟩
    · split <;> exact ⟨s.marks, s.mcount, _, s.ready, rfl, .inl ⟨rfl, rfl, rfl⟩⟩
  · exact ⟨s.marks, s.mcount, _, s.ready, rfl, .inl ⟨rfl, rfl, rfl⟩⟩

/-- Everything SAMPLE can do. -/
theorem takeSample_cases (b : Bit) (s : State) :
    takeSample b s = s ∨
      (s.busy = false ∧ s.ctrl.en = true ∧
        takeSample b s = detect b (nextIdx s) (appendBit b s)) := by
  by_cases h : samplerMasked s = true
  · exact .inl (takeSample_masked b s h)
  · have h' : samplerMasked s = false := by simpa using h
    have := (samplerMasked_eq_false s).1 h'
    exact .inr ⟨this.1, this.2, takeSample_accepted b s h'⟩

/-- The fields SAMPLE can change. -/
theorem takeSample_fields (b : Bit) (s : State) :
    ∃ bu w d m c r y, takeSample b s =
      { s with buf := bu, widx := w, done := d, marks := m, mcount := c, run := r, ready := y } := by
  rcases takeSample_cases b s with h | ⟨_, _, h⟩
  · exact ⟨s.buf, s.widx, s.done, s.marks, s.mcount, s.run, s.ready, h⟩
  · obtain ⟨m, c, r, y, h2, _⟩ := detect_cases b (nextIdx s) (appendBit b s)
    rw [h, h2]
    exact ⟨_, _, _, m, c, r, y, rfl⟩

/-- SAMPLE keeps the buffer's form. -/
@[simp] theorem takeSample_wf (b : Bit) (s : State) : Memory.wf (takeSample b s) = Memory.wf s := by
  rcases takeSample_cases b s with h | ⟨_, _, h⟩
  · rw [h]
  · obtain ⟨m, c, r, y, h2, _⟩ := detect_cases b (nextIdx s) (appendBit b s)
    rw [h, h2]
    exact appendBit_wf b s

/-! ## Entering and leaving a validation -/

theorem enterValidation_busy (s : State) (h : s.busy = true) : enterValidation s = s := by
  simp [enterValidation, h]

theorem enterValidation_free (s : State) (h : s.busy = false) :
    enterValidation s =
      { s with pend := validateResult s, busy := true, vcnt := s.params.validateLatency } := by
  simp [enterValidation, h]

theorem publish_accept (s : State) (h : s.pend.outcome = .accept) :
    publish s =
      { s with tag := s.pend.tag, aperr := s.pend.rowbad, perr := false, outcome := .accept } := by
  simp [publish, h]

theorem publish_reject (s : State) (h : s.pend.outcome = .reject) :
    publish s = { s with outcome := .reject, perr := s.perr || s.pend.perrSeen } := by
  simp [publish, h]

theorem leaveValidation_free (s : State) (h : s.busy = false) : leaveValidation s = s := by
  simp [leaveValidation, h]

theorem leaveValidation_busy (s : State) (h : s.busy = true) :
    leaveValidation s = frameReset (publish (clearBusy s)) := by simp [leaveValidation, h]

theorem discardFrame_busy (s : State) (h : s.busy = true) : discardFrame s = s := by
  simp [discardFrame, h]

theorem discardFrame_free (s : State) (h : s.busy = false) : discardFrame s = frameReset s := by
  simp [discardFrame, h]

/-! ## Candidates -/

theorem tryCandidates_nil (B : Nat → Bit) (c : Nat) (rpe seen : Bit) :
    tryCandidates B c rpe seen [] =
      { outcome := .reject, tag := Vector.replicate 10 0, rowbad := false, perrSeen := seen } := rfl

theorem tryCandidates_pass (B : Nat → Bit) (c : Nat) (rpe seen : Bit) (m : Nat) (ms : List Nat)
    (h : passes B c rpe m = true) :
    tryCandidates B c rpe seen (m :: ms) =
      { outcome := .accept, tag := charsAt B m, rowbad := rowBadAt B m,
        perrSeen := seen || rowBadAt B m } := by simp [tryCandidates, h]

theorem tryCandidates_skip (B : Nat → Bit) (c : Nat) (rpe seen : Bit) (m : Nat) (ms : List Nat)
    (h : passes B c rpe m = false) :
    tryCandidates B c rpe seen (m :: ms) =
      tryCandidates B c rpe (seen || rowBadAt B m) ms := by simp [tryCandidates, h]

@[simp] theorem charsAt_getElem (B : Nat → Bit) (m k : Nat) (h : k < 10) :
    (charsAt B m)[k] = nibbleAt B (m + 5 * k) := by simp [charsAt]

/-- Bit 0 of a character is the last of its four bits. -/
@[simp] theorem nibbleAt_low (B : Nat → Bit) (p : Nat) : (nibbleAt B p)[0] = B (p + 3) := by
  unfold nibbleAt
  generalize B p = b3
  generalize B (p + 1) = b2
  generalize B (p + 2) = b1
  generalize B (p + 3) = b0
  revert b3 b2 b1 b0
  decide

/-- A character as a number (42_validator.md R144). -/
theorem nibbleAt_toNat (B : Nat → Bit) (p : Nat) :
    (nibbleAt B p).toNat =
      8 * (B p).toNat + 4 * (B (p + 1)).toNat + 2 * (B (p + 2)).toNat + (B (p + 3)).toNat := by
  unfold nibbleAt
  generalize B p = b3
  generalize B (p + 1) = b2
  generalize B (p + 2) = b1
  generalize B (p + 3) = b0
  revert b3 b2 b1 b0
  decide

theorem rowBadAt_iff (B : Nat → Bit) (m : Nat) :
    rowBadAt B m = true ↔ ∃ k, k < 10 ∧ B (m + 5 * k + 4) ≠ B (m + 5 * k + 3) := by
  simp [rowBadAt, List.any_eq_true]

/-! ## Host registers -/

theorem runCommand_softreset (s : State) : runCommand 3#32 s = softReset s := by simp [runCommand]

theorem runCommand_busy (v : Word) (s : State) (hv : v ≠ 3#32) (h : s.busy = true) :
    runCommand v s = s := by simp [runCommand, hv, h]

theorem runCommand_validate (s : State) (h : s.busy = false) :
    runCommand 1#32 s = enterValidation s := by simp [runCommand, h]

theorem runCommand_discard (s : State) (h : s.busy = false) :
    runCommand 2#32 s = discardFrame s := by simp [runCommand, h]

theorem runCommand_other (v : Word) (s : State) (h1 : v ≠ 1#32) (h2 : v ≠ 2#32) (h3 : v ≠ 3#32) :
    runCommand v s = s := by simp [runCommand, h1, h2, h3]

/-- Everything a command word can do. -/
theorem runCommand_cases (v : Word) (s : State) :
    runCommand v s = s ∨ (v = 3#32 ∧ runCommand v s = softReset s) ∨
      (v = 1#32 ∧ s.busy = false ∧ runCommand v s = enterValidation s) ∨
      (v = 2#32 ∧ s.busy = false ∧ runCommand v s = frameReset s) := by
  by_cases h3 : v = 3#32
  · subst h3
    exact .inr (.inl ⟨rfl, runCommand_softreset s⟩)
  · by_cases hb : s.busy = true
    · exact .inl (runCommand_busy v s h3 hb)
    · have hb' : s.busy = false := by simpa using hb
      by_cases h1 : v = 1#32
      · subst h1
        exact .inr (.inr (.inl ⟨rfl, hb', runCommand_validate s hb'⟩))
      · by_cases h2 : v = 2#32
        · subst h2
          exact .inr (.inr (.inr ⟨rfl, hb',
            (runCommand_discard s hb').trans (discardFrame_free s hb')⟩))
        · exact .inl (runCommand_other v s h1 h2 h3)

@[simp] theorem regWrite_ctrl (v : Word) (s : State) : regWrite 0 v s = writeCtrl v s := rfl

@[simp] theorem regWrite_cmd (v : Word) (s : State) : regWrite 1 v s = runCommand v s := rfl

theorem regWrite_ignored (a : RegAddr) (v : Word) (s : State) (h : 2 ≤ a.toNat) :
    regWrite a v s = s := by
  unfold regWrite
  split <;> first | omega | rfl

/-- Everything a host write can do. -/
theorem regWrite_cases (a : RegAddr) (v : Word) (s : State) :
    regWrite a v s = s ∨ (a = 0 ∧ regWrite a v s = writeCtrl v s) ∨
      (a = 1 ∧ regWrite a v s = runCommand v s) := by
  by_cases h0 : a = 0
  · subst h0
    exact .inr (.inl ⟨rfl, rfl⟩)
  · by_cases h1 : a = 1
    · subst h1
      exact .inr (.inr ⟨rfl, rfl⟩)
    · refine .inl (regWrite_ignored a v s ?_)
      have h0' : a.toNat ≠ 0 := fun h => h0 (BitVec.eq_of_toNat_eq h)
      have h1' : a.toNat ≠ 1 := fun h => h1 (BitVec.eq_of_toNat_eq h)
      omega

@[simp] theorem regRead_ctrl (s : State) : regRead 0 s = ctrlWord s.ctrl := rfl
@[simp] theorem regRead_cmd (s : State) : regRead 1 s = 0 := rfl
@[simp] theorem regRead_status (s : State) : regRead 2 s = statusWord s := rfl
@[simp] theorem regRead_param (s : State) : regRead 3 s = paramWord s.params := rfl
@[simp] theorem regRead_tagHi (s : State) : regRead 4 s = tagHiWord s.tag := rfl
@[simp] theorem regRead_tagLo (s : State) : regRead 5 s = tagLoWord s.tag := rfl
@[simp] theorem regRead_txt0 (s : State) : regRead 6 s = txt0Word s.tag := rfl
@[simp] theorem regRead_txt1 (s : State) : regRead 7 s = txt1Word s.tag := rfl
@[simp] theorem regRead_txt2 (s : State) : regRead 8 s = txt2Word s.tag := rfl

/-! ## Events -/

/-- What an event leaves: every meaning answers a next state, and this is it. -/
def effect (i : Instr) (s : State) : State :=
  match i with
  | .sample b => takeSample b s
  | .rd a => returnData (regRead a s) s
  | .wrCtrl v => writeCtrl v s
  | .wrCmd v => runCommand v s
  | .wrRoStatusParam _ _ => s
  | .wrRoTagText _ _ => s
  | .wrRoMarks _ _ => s
  | .hostReserved11 a v => returnData 0 (regWrite a v s)
  | .nop => s
  | .validate => enterValidation s
  | .discard => discardFrame s
  | .softreset => softReset s
  | .cmdReserved _ _ => s
  | .vdone => leaveValidation s
  | .reset => hardReset s

theorem two_le_statusParam (a : BitVec 1) : 2 ≤ (0b001#3 ++ a : BitVec 4).toNat := by
  revert a; decide

theorem two_le_tagText (a : BitVec 2) : 2 ≤ (0b01#2 ++ a : BitVec 4).toNat := by
  revert a; decide

theorem two_le_marks (a : BitVec 3) : 2 ≤ (0b1#1 ++ a : BitVec 4).toNat := by
  revert a; decide

theorem exec_eq_effect (i : Instr) (s : State) : exec i s = .next (effect i s) := by
  cases i with
  | wrRoStatusParam a v => exact congrArg _ (regWrite_ignored _ v s (two_le_statusParam a))
  | wrRoTagText a v => exact congrArg _ (regWrite_ignored _ v s (two_le_tagText a))
  | wrRoMarks a v => exact congrArg _ (regWrite_ignored _ v s (two_le_marks a))
  | _ => rfl

@[simp] theorem execAll_nil (s : State) : execAll [] s = .next s := rfl

@[simp] theorem execAll_cons (i : Instr) (is : List Instr) (s : State) :
    execAll (i :: is) s = execAll is (effect i s) := by
  simp [execAll, exec_eq_effect]

theorem execAll_eq_foldl (is : List Instr) (s : State) :
    execAll is s = .next (is.foldl (fun t i => effect i t) s) := by
  induction is generalizing s with
  | nil => rfl
  | cons i is ih => simp [ih]

theorem execAll_append (is js : List Instr) (s : State) :
    execAll (is ++ js) s = execAll js (is.foldl (fun t i => effect i t) s) := by
  simp [execAll_eq_foldl]

theorem runWord_event (w : PortWord) (i : Instr) (s : State) (h : decode w = .ok i) :
    runWord w s = exec i s := by simp [runWord, h]

theorem runWord_noEvent (w : PortWord) (e : NoEvent) (s : State) (h : decode w = .error e) :
    runWord w s = .next s := by simp [runWord, h]

theorem step_event (s : State) (w : PortWord) (rest : List PortWord) (h : s.events = w :: rest) :
    step s = runWord w (setEvents rest s) := by simp [step, stepPresented, h]

theorem step_cycle (s : State) (c : Cycle) (rest : List Cycle) (h : s.events = [])
    (hc : s.cycles = c :: rest) : step s = .next (clockTick c (setCycles rest s)) := by
  simp [step, stepPresented, h, hc]

theorem step_nothing (s : State) (h : s.events = []) (hc : s.cycles = []) : step s = .next s := by
  simp [step, stepPresented, h, hc]

end Sys2Proof.Machine
end

