-- ==== Sys2Proof/Laws/Cycle.lean ====
section
/-! SUPPORT. What each port presents in a clock cycle, case by case, the fields of the state after the
clock edge, and a cycle's words as instructions. -/

namespace Sys2Proof.Machine

/-! ## The ports -/

theorem presents_due (f : FrontEnd) (h : f.cnt = 1) : f.presents = some f.s2 := by
  simp [FrontEnd.presents, h]

theorem presents_none (f : FrontEnd) (h : f.cnt ≠ 1) : f.presents = none := by
  simp [FrontEnd.presents, h]

/-- FE_CNT stays within the delay. -/
theorem nextCnt_le (delay : Nat) (f : FrontEnd) (h : f.cnt ≤ delay) : f.nextCnt delay ≤ delay := by
  unfold FrontEnd.nextCnt
  split
  · split <;> omega
  · omega

theorem samplePort_frontEnd (c : Cycle) (s : State) (h : s.params.fePresent = true) :
    samplePort c s = s.fe.presents.map fun b => 1#1 ++ BitVec.ofBool b := by simp [samplePort, h]

theorem samplePort_external (c : Cycle) (s : State) (h : s.params.fePresent = false) :
    samplePort c s = if c.smp.getLsbD 1 then some c.smp else none := by simp [samplePort, h]

theorem hostPort_idle (c : Cycle) (hw : c.host.getLsbD 37 = false) (hr : c.host.getLsbD 36 = false) :
    hostPort c = none := by rw [hostPort, hw, hr]; rfl

theorem hostPort_active (c : Cycle) (h : c.host.getLsbD 37 = true ∨ c.host.getLsbD 36 = true) :
    hostPort c = some c.host := by
  rw [hostPort, if_pos (by simpa only [Bool.or_eq_true] using h)]

theorem completionDue_iff (s : State) : completionDue s = true ↔ s.busy = true ∧ s.vcnt ≤ 1 := by
  simp [completionDue]

/-! ## The clock edge -/

theorem cycleEvents_reset (c : Cycle) (s : State) (h : c.rst = true) :
    cycleEvents c s = [.reset 1] := by simp [cycleEvents, h]

theorem cycleEvents_run (c : Cycle) (s : State) (h : c.rst = false) :
    cycleEvents c s =
      (samplePort c s).toList.map PortWord.sample ++ (hostPort c).toList.map PortWord.host ++
        (if completionDue s then [.vdone] else []) := by simp [cycleEvents, h]

theorem clockTick_reset (c : Cycle) (s : State) (h : c.rst = true) :
    clockTick c s = setEvents (s.events ++ [.reset 1]) s := by
  simp [clockTick, cycleEvents_reset c s h, h]

theorem clockTick_run (c : Cycle) (s : State) (h : c.rst = false) :
    clockTick c s = setEvents (s.events ++ cycleEvents c s) (tickRegisters c s) := by
  simp [clockTick, h]

/-- A cycle presents at most three events. -/
theorem cycleEvents_length (c : Cycle) (s : State) : (cycleEvents c s).length ≤ 3 := by
  cases hc : c.rst
  · rw [cycleEvents_run c s hc]
    cases samplePort c s <;> cases hostPort c <;> cases completionDue s <;> simp
  · simp [cycleEvents_reset c s hc]

/-- SAMPLE neither reads nor writes what the clock edge moves. -/
theorem takeSample_clock (b : Bit) (s : State) (f : FrontEnd) (n : Nat) (ws : List PortWord) :
    takeSample b { s with fe := f, vcnt := n, events := ws } =
      { takeSample b s with fe := f, vcnt := n, events := ws } := by
  by_cases h : samplerMasked s = true
  · have e : samplerMasked { s with fe := f, vcnt := n, events := ws } = true := h
    rw [takeSample_masked b _ e, takeSample_masked b s h]
  · have h' : samplerMasked s = false := by simpa using h
    have e : samplerMasked { s with fe := f, vcnt := n, events := ws } = false := h'
    rw [takeSample_accepted b _ e, takeSample_accepted b s h']
    by_cases h8 : s.run + 1 = 9 <;> by_cases h9 : s.run + 1 = 10 <;>
      by_cases hq : s.mcount < s.params.nMark <;> cases b <;>
      simp [detect, recordMark, setRun, appendBit, nextIdx, doneAfterAppend, readyAfterMark, h8, h9, hq] <;>
      first | rfl | exact ⟨rfl, rfl⟩ | exact ⟨rfl, rfl, rfl⟩

/-! ## A cycle's words as instructions -/

/-- The instruction a port word carries, none where it is no event. -/
def eventOf (w : PortWord) : Option Instr :=
  match decode w with
  | .ok i => some i
  | .error _ => none

@[simp] theorem runWords_nil (s : State) : runWords [] s = .next s := rfl

/-- Words run as the instructions they carry. -/
theorem runWords_eq_execAll (ws : List PortWord) (s : State) :
    runWords ws s = execAll (ws.filterMap eventOf) s := by
  induction ws generalizing s with
  | nil => rfl
  | cons w ws ih =>
    cases h : decode w with
    | ok i => simp [runWords, runWord, eventOf, h, exec_eq_effect, ih]
    | error e => simp [runWords, runWord, eventOf, h, ih]

/-- A cycle runs the instructions of its words. -/
theorem runCycle_eq_execAll (c : Cycle) (s : State) :
    runCycle c s = execAll ((cycleEvents c s).filterMap eventOf) (setEvents [] (clockTick c s)) :=
  runWords_eq_execAll _ _

@[simp] theorem runCycles_nil (s : State) : runCycles [] s = .next s := rfl

theorem runCycles_cons (c : Cycle) (cs : List Cycle) (s t : State) (h : runCycle c s = .next t) :
    runCycles (c :: cs) s = runCycles cs t := by simp [runCycles, h]

end Sys2Proof.Machine
end

