-- ==== Sys2Proof/Laws/PerInstr.lean ====
section
/-! SUPPORT. Statements about every instruction as syntax, one lemma per constructor. -/

namespace Sys2Proof

/-- The port on which an instruction is presented (30_encoding.md R70). -/
inductive Port where
  | sample
  | host
  | command
  | internal
  | reset
deriving DecidableEq, Repr

/-- The port that carries a word. -/
def PortWord.port : PortWord → Port
  | .sample _ => .sample
  | .host _ => .host
  | .command _ => .command
  | .vdone => .internal
  | .reset _ => .reset

/-- The format column of spec/opcode_table.json, as a port. -/
def Instr.port : Instr → Port
  | .sample _ => .sample
  | .rd _ => .host
  | .wrCtrl _ => .host
  | .wrCmd _ => .host
  | .wrRoStatusParam _ _ => .host
  | .wrRoTagText _ _ => .host
  | .wrRoMarks _ _ => .host
  | .hostReserved11 _ _ => .host
  | .nop => .command
  | .validate => .command
  | .discard => .command
  | .softreset => .command
  | .cmdReserved _ _ => .command
  | .vdone => .internal
  | .reset => .reset

namespace Laws.EncodesOnItsPort

/-- An instruction's word is presented on the port of its table row. -/
def Statement (i : Instr) : Prop := (encode i).port = i.port

theorem sample (b : Bit) : Statement (.sample b) := rfl
theorem rd (a : RegAddr) : Statement (.rd a) := rfl
theorem wrCtrl (v : Word) : Statement (.wrCtrl v) := rfl
theorem wrCmd (v : Word) : Statement (.wrCmd v) := rfl
theorem wrRoStatusParam (a : BitVec 1) (v : Word) : Statement (.wrRoStatusParam a v) := rfl
theorem wrRoTagText (a : BitVec 2) (v : Word) : Statement (.wrRoTagText a v) := rfl
theorem wrRoMarks (a : BitVec 3) (v : Word) : Statement (.wrRoMarks a v) := rfl
theorem hostReserved11 (a : RegAddr) (v : Word) : Statement (.hostReserved11 a v) := rfl
theorem nop : Statement .nop := rfl
theorem validate : Statement .validate := rfl
theorem discard : Statement .discard := rfl
theorem softreset : Statement .softreset := rfl
theorem cmdReserved (rsv : BitVec 24) (op : BitVec 8) : Statement (.cmdReserved rsv op) := rfl
theorem vdone : Statement .vdone := rfl
theorem reset : Statement .reset := rfl

end Laws.EncodesOnItsPort

end Sys2Proof
end

