-- ==== Sys2Proof/Tests/Slice0.lean ====
section
/-! SUPPORT. Tests: ill-formed terms refused, words of the spec decoded, single events on small states
with results from 95_test_vectors.md or worked by hand from the rules, and a witness for the
hypotheses of each statement. -/

namespace Sys2Proof.Tests

open Sys2Proof Sys2Proof.Machine Sys2Proof.Claim

/-! ## Well-formedness smoke tests -/

theorem test_wf_refuses_reserved_zero : (Instr.cmdReserved 0 0).wf = false := by decide
theorem test_wf_refuses_reserved_three : (Instr.cmdReserved 0 3).wf = false := by decide
theorem test_wf_takes_reserved_four : (Instr.cmdReserved 0 4).wf = true := by decide
theorem test_wf_takes_reserved_rsv : (Instr.cmdReserved 1 1).wf = true := by decide

/-! ## A small block (95_test_vectors.md section 0, BUF_INIT = 0) -/

/-- Parameters in range, with small ones where the spec lets them be small. -/
def p64 : Params :=
  { bufCap := 64, nMark := 5, colIdx := 1, runRestart := true, rpeReset := false,
    fePresent := true, validateLatency := 2, sampleDelay := 3, fClk := 1 }

/-- Its state after reset, every buffer entry 0. -/
def zero : State := State.afterReset p64 fun _ => false

/-- The state after an event. -/
def after (i : Instr) (s : State) : State :=
  match exec i s with
  | .next t => t
  | .fault _ => s
  | .refused _ => s

theorem exec_after (i : Instr) (s : State) : exec i s = .next (after i s) := by
  simp [after, exec_eq_effect]

/-- Bits written as digits. -/
def bits (l : List Nat) : List Bit := l.map (· == 1)

/-- The scenario's ten characters with bit-0 row parity (95_test_vectors.md, `F(310037D93D)`). -/
def chars310037D93D : List Bit := bits
  [0,0,1,1,1, 0,0,0,1,1, 0,0,0,0,0, 0,0,0,0,0, 0,0,1,1,1,
   0,1,1,1,1, 1,1,0,1,1, 1,0,0,1,1, 0,0,1,1,1, 1,1,0,1,1]

/-- The same characters with the XOR row parity (95_test_vectors.md, `F(310037D93D; xor)`). -/
def charsXor : List Bit := bits
  [0,0,1,1,0, 0,0,0,1,1, 0,0,0,0,0, 0,0,0,0,0, 0,0,1,1,0,
   0,1,1,1,1, 1,1,0,1,1, 1,0,0,1,0, 0,0,1,1,0, 1,1,0,1,1]

/-- A whole frame in a buffer of 64: preamble at 0..8, characters, trailer; marker 9. -/
def framed (chars trailer : List Bit) : State :=
  { zero with
    buf := List.replicate 9 true ++ chars ++ trailer
    marks := #v[9, 0, 0, 0, 0]
    mcount := 1
    done := true }

/-- The scenario's characters. -/
def tag310037D93D : Vector Nibble 10 := #v[3, 1, 0, 0, 3, 7, 13, 9, 3, 13]

theorem test_params_refuses_capacity : ¬ ({ p64 with bufCap := 63 } : Params).wf := by decide
theorem test_params_refuses_capacity_above : ¬ ({ p64 with bufCap := 65537 } : Params).wf := by decide
theorem test_params_refuses_quota_zero : ¬ ({ p64 with nMark := 0 } : Params).wf := by decide
theorem test_params_refuses_quota : ¬ ({ p64 with nMark := 6 } : Params).wf := by decide
theorem test_params_refuses_latency : ¬ ({ p64 with validateLatency := 0 } : Params).wf := by decide
theorem test_params_refuses_delay : ¬ ({ p64 with sampleDelay := 0 } : Params).wf := by decide
theorem test_params_refuses_clock : ¬ ({ p64 with fClk := 0 } : Params).wf := by decide
theorem test_params_takes_p64 : p64.wf := by decide

/-! ## Decoding (30_encoding.md R71 to R76, 95_test_vectors.md section 8) -/

-- S: smp_valid 1, smp_bit 1
theorem test_decode_sample : decode (.sample 0b11#2) = .ok (.sample true) := by decide
-- H: we 0, re 1, addr 0010
theorem test_decode_rd :
    decode (.host 0b01001000000000000000000000000000000000#38) = .ok (.rd 2) := by decide
-- H: we 1, re 0, addr 0000, wdata 3
theorem test_decode_wrCtrl :
    decode (.host 0b10000000000000000000000000000000000011#38) = .ok (.wrCtrl 3) := by decide
-- H: we 1, re 0, addr 0001, wdata 1
theorem test_decode_wrCmd :
    decode (.host 0b10000100000000000000000000000000000001#38) = .ok (.wrCmd 1) := by decide
-- H: addr 0011 (PARAM)
theorem test_decode_wrRoStatusParam :
    decode (.host 0b10001100000000000000000000000000000000#38) = .ok (.wrRoStatusParam 1 0) := by decide
-- H: addr 0101 (TAG_LO)
theorem test_decode_wrRoTagText :
    decode (.host 0b10010100000000000000000000000000000000#38) = .ok (.wrRoTagText 1 0) := by decide
-- H: addr 1111 (unmapped 15), wdata 1
theorem test_decode_wrRoMarks :
    decode (.host 0b10111100000000000000000000000000000001#38) = .ok (.wrRoMarks 7 1) := by decide
-- H: we 1, re 1, addr 0000, wdata 2
theorem test_decode_hostReserved11 :
    decode (.host 0b11000000000000000000000000000000000010#38) = .ok (.hostReserved11 0 2) := by decide
theorem test_decode_nop : decode (.command 0x00000000) = .ok .nop := by decide
theorem test_decode_validate : decode (.command 0x00000001) = .ok .validate := by decide
theorem test_decode_discard : decode (.command 0x00000002) = .ok .discard := by decide
theorem test_decode_softreset : decode (.command 0x00000003) = .ok .softreset := by decide
-- rsv 1, op 1: not VALIDATE (V-C6)
theorem test_decode_cmdReserved : decode (.command 0x00000101) = .ok (.cmdReserved 1 1) := by decide
theorem test_decode_vdone : decode .vdone = .ok .vdone := by decide
theorem test_decode_reset : decode (.reset 1#1) = .ok .reset := by decide
theorem test_decode_no_sample : decode (.sample 0b01#2) = .error .sampleNotValid := by decide
theorem test_decode_host_idle : decode (.host 0x0F00000001) = .error .hostIdle := by decide
theorem test_decode_reset_inactive : decode (.reset 0#1) = .error .resetInactive := by decide

theorem test_tableWord_validate : decodeTableWord 32 1 = some .validate := by decide
theorem test_tableWord_host : decodeTableWord 40 0x1200000000 = some (.rd 2) := by decide
theorem test_tableWord_sample : decodeTableWord 8 2 = some (.sample false) := by decide
theorem test_tableWord_reset : decodeTableWord 8 1 = some .reset := by decide
theorem test_tableWord_vdone : decodeTableWord 0 0 = some .vdone := by decide

-- 20_memory.md R56: byte address 0x17 is word 5, its low bits ignored
theorem test_bus_low_bits_ignored : decode (busRead 0x17) = .ok (.rd 5) := by decide
theorem test_bus_write_whole_word : decode (busWrite 0x01 3) = .ok (.wrCtrl 3) := by decide

/-! ## The step runs the word -/

-- CTRL after one step from reset on `WR CTRL, 2`
theorem test_step_runs_placed_word :
    ∃ t, step (State.reset.withFetchWord 40 0x2000000002) = .next t ∧ regRead 0 t = 2 ∧
      t.events = [] := ⟨_, rfl, by decide, rfl⟩
theorem test_step_idle : step zero = .next zero := rfl

/-! ## SAMPLE -/

-- V-S1, by 40_sampler.md R100
theorem test_sample_one : regRead 2 (after (.sample true) zero) = 0x00011000 := by decide
-- V-S2, its last event
theorem test_sample_zero_clears_run :
    (after (.sample false) { zero with run := 8, widx := 8 }).run = 0 := by decide
-- V-S3, its last event: marker 21
theorem test_ninth_one_marks :
    regRead 2 (after (.sample true) { zero with run := 8, widx := 20 }) = 0x00150201 := by decide
-- V-S6, its last event: index 63, marker 0, DONE
theorem test_ninth_one_at_the_wrap :
    regRead 2 (after (.sample true) { zero with run := 8, widx := 63 }) = 0x0000020A := by decide
-- V-S4h: the ninth one with RUN_RESTART false, and the tenth
theorem test_ninth_one_holds :
    (after (.sample true)
      { zero with run := 8, widx := 8, params := { p64 with runRestart := false } }).run = 9 := by decide
theorem test_tenth_one_is_no_marker :
    regRead 2 (after (.sample true)
      { zero with run := 9, widx := 9, mcount := 1, params := { p64 with runRestart := false } }) =
        0x000A9201 := by decide
-- V-S8, V-S9: dropped
theorem test_sample_disabled :
    after (.sample true) { zero with ctrl := ⟨false, false⟩ } = { zero with ctrl := ⟨false, false⟩ } := by
  decide
theorem test_sample_masked :
    (after (.sample true) { zero with busy := true, run := 5, widx := 5 }).run = 5 := by decide

/-! ## Commands and the validator -/

-- V-V1, P1: VALIDATE saves the ten characters
theorem test_validate_saves_the_tag :
    (after .validate (framed chars310037D93D (bits [0,0,0,0,0]))).pend =
      { outcome := .accept, tag := tag310037D93D, rowbad := false, perrSeen := false } := by decide
-- V-V2: stop bit 1
theorem test_validate_stop_rejects :
    (after .validate (framed chars310037D93D (bits [0,0,0,0,1]))).pend.outcome = .reject := by decide
-- V-V3a, V-V3b: only col[1] is monitored
theorem test_validate_col1_rejects :
    (after .validate (framed chars310037D93D (bits [0,1,0,0,0]))).pend.outcome = .reject := by decide
theorem test_validate_other_cols_ignored :
    (after .validate (framed chars310037D93D (bits [1,0,1,1,0]))).pend.outcome = .accept := by decide
-- V-V4, V-V5: the XOR row parity is a mismatch, advisory unless RPE
theorem test_validate_mismatch_advisory :
    (after .validate (framed charsXor (bits [0,0,0,0,0]))).pend =
      { outcome := .accept, tag := tag310037D93D, rowbad := true, perrSeen := true } := by decide
theorem test_validate_mismatch_enforced :
    (after .validate { framed charsXor (bits [0,0,0,0,0]) with ctrl := ⟨true, true⟩ }).pend.outcome =
      .reject := by decide
-- V-C2: no marker
theorem test_validate_without_marker : regRead 2 (after .validate zero) = 0x00000013 := by decide

/-- BUSY with the scenario's tag pending. -/
def pending : State :=
  { zero with
    busy := true, vcnt := 1, mcount := 1, marks := #v[21, 0, 0, 0, 0], widx := 63
    pend := { outcome := .accept, tag := tag310037D93D, rowbad := false, perrSeen := false } }

-- V-V1, P1: STATUS and the tag's registers after VDONE
theorem test_vdone_status : regRead 2 (after .vdone pending) = 0x00000040 := by decide
theorem test_vdone_tag_text :
    regRead 4 (after .vdone pending) = 0x31 ∧ regRead 5 (after .vdone pending) = 0x0037D93D ∧
      regRead 6 (after .vdone pending) = 0x30303133 ∧ regRead 7 (after .vdone pending) = 0x39443733 ∧
      regRead 8 (after .vdone pending) = 0x00004433 := by decide
-- V-V5: REJECT with a mismatch seen
theorem test_vdone_reject_sets_perr :
    regRead 2 (after .vdone { pending with pend := { Pend.cleared with perrSeen := true } }) =
      0x000000A0 := by decide
-- V-C3: ignored while BUSY
theorem test_discard_ignored_while_busy : after .discard pending = pending := by decide
theorem test_validate_ignored_while_busy : after .validate pending = pending := by decide
-- V-C8: SOFTRESET keeps CTRL
theorem test_softreset_keeps_ctrl :
    regRead 2 (after .softreset { pending with ctrl := ⟨true, true⟩ }) = 0 ∧
      regRead 0 (after .softreset { pending with ctrl := ⟨true, true⟩ }) = 3 := by decide
-- V-C9: PERR and OUTCOME survive DISCARD
theorem test_discard_keeps_results :
    regRead 2 (after .discard { zero with perr := true, outcome := .reject, widx := 5 }) =
      0x000000A0 := by decide
-- V-C6
theorem test_reserved_word_ignored : after (.wrCmd 0x101) zero = zero := by decide

/-! ## Host access and RESET -/

-- V-H1, V-H2
theorem test_param_default : regRead 3 State.reset = 0x005A0200 := by decide
theorem test_param_small :
    regRead 3 { zero with
      params := { p64 with nMark := 1, colIdx := 0, runRestart := false } } = 0x00020040 := by decide
-- V-H3
theorem test_ctrl_reserved_bits : regRead 0 (after (.wrCtrl 0xFFFFFFFF) zero) = 3 := by decide
-- V-H4
theorem test_write_mark0_ignored : after (.wrRoMarks 1 7) pending = pending := by decide
-- V-H5
theorem test_reserved11_writes :
    regRead 0 (after (.hostReserved11 0 2) zero) = 2 ∧
      (after (.hostReserved11 0 2) zero).rdata = some 0 := by decide
theorem test_rd_text : (after (.rd 6) zero).rdata = some 0x30303030 := by decide
-- V-R1b
theorem test_reset_rpe :
    regRead 0 (after .reset { pending with params := { p64 with rpeReset := true } }) = 3 := by decide

/-! ## The clock -/

-- V-F1: the cycle that starts with FE_CNT = 1 presents the level
theorem test_front_end_presents :
    cycleEvents ⟨false, true, 0, 0⟩ { zero with fe := ⟨true, true, true, 1⟩ } = [.sample 0b11] := by decide
-- 60_exceptions.md R206: RESET alone
theorem test_reset_cycle_alone :
    cycleEvents ⟨true, true, 3, 0x2000000001⟩ pending = [.reset 1] := by decide
theorem test_cycle_order :
    cycleEvents ⟨false, true, 0, 0x1200000000⟩ { pending with fe := ⟨true, false, true, 1⟩ } =
      [.sample 0b10, .host 0x1200000000, .vdone] := by decide

-- 40_sampler.md R115: 400 µs at 1 MHz is 400 cycles
theorem test_delay_cycles : delayCycles 400000 1000000 = 400 := by decide

end Sys2Proof.Tests
end

