-- ==== Sys2Proof/Tests/Witnesses.lean ====
section
/-! SUPPORT. For each statement with hypotheses, concrete states and operands that meet all of them
together, and for a statement of several clauses each clause at a boundary of its range. -/

namespace Sys2Proof.Tests

open Sys2Proof Sys2Proof.Machine Sys2Proof.Claim

theorem inv_zero : zero.Inv := by constructor <;> decide

/-- One short of the ninth one, at the last index, four of five markers taken. -/
def eight : State :=
  { zero with run := 8, widx := 63, mcount := 4, marks := #v[10, 20, 30, 40, 0] }

theorem inv_eight : eight.Inv := by constructor <;> decide

/-- The quota reached. -/
def full : State :=
  { zero with run := 8, widx := 51, mcount := 5, marks := #v[10, 20, 30, 40, 50], ready := true }

theorem inv_full : full.Inv := by constructor <;> decide

/-- The hold policy, RUN held at 9. -/
def held : State :=
  { zero with
    params := { p64 with runRestart := false }, run := 9, widx := 9, mcount := 1
    marks := #v[9, 0, 0, 0, 0] }

theorem inv_held : held.Inv := by constructor <;> decide

/-- The scenario's frame, accepted. -/
def good : State := framed chars310037D93D (bits [0,0,0,0,0])

theorem inv_good : good.Inv := by constructor <;> decide

/-- The scenario's frame with stop bit 1, rejected. -/
def bad : State := framed chars310037D93D (bits [0,0,0,0,1])

theorem inv_bad : bad.Inv := by constructor <;> decide

theorem inv_pending : pending.Inv := by constructor <;> decide

/-- A validation with one cycle left and the external sample port. -/
def pendingExt : State := { pending with params := { p64 with fePresent := false } }

theorem first_good : FirstAccepted good 0 := by decide
theorem spells_good : Spells good (cand good 0) tag310037D93D := by decide
theorem none_bad : NoneAccepted bad := by decide

/-! ## SAMPLE -/

theorem witness_SampleDroppedWhileMasked_busy : pending.busy = true := by decide
theorem witness_SampleDroppedWhileMasked_disabled :
    ({ zero with ctrl := ⟨false, false⟩ } : State).ctrl.en = false := by decide

theorem witness_OnlySampleWritesTheBufferAtWidx :
    (eight.Inv ∧ Armed eight) ∧
      ∃ t, exec (.sample true) zero = .next t ∧ t.buf ≠ zero.buf :=
  ⟨⟨inv_eight, by decide⟩, _, exec_after _ _, by decide⟩

theorem witness_SampleSetsDoneOnTheWrap_wrap :
    eight.Inv ∧ Armed eight ∧ eight.widx = eight.params.bufCap - 1 := ⟨inv_eight, by decide, by decide⟩
theorem witness_SampleSetsDoneOnTheWrap_before :
    zero.Inv ∧ Armed zero ∧ zero.widx ≠ zero.params.bufCap - 1 := ⟨inv_zero, by decide, by decide⟩

theorem witness_ShortRunLeavesNoTrace :
    Armed { zero with run := 7 } ∧ ({ zero with run := 7 } : State).run < 8 ∧ Armed zero ∧
      zero.run = 0 ∧ 8 < 9 := by decide

theorem witness_NinthOneRecordsTheMarker_open :
    eight.Inv ∧ Armed eight ∧ eight.run = 8 ∧ eight.mcount < eight.params.nMark :=
  ⟨inv_eight, by decide, by decide, by decide⟩
theorem witness_NinthOneRecordsTheMarker_full :
    full.Inv ∧ Armed full ∧ full.run = 8 ∧ full.mcount = full.params.nMark :=
  ⟨inv_full, by decide, by decide, by decide⟩
theorem witness_NinthOneRecordsTheMarker_held :
    held.Inv ∧ Armed held ∧ held.run = 9 := ⟨inv_held, by decide, by decide⟩

theorem witness_ReadyAtTheQuotaSuspendsCapture_reach :
    eight.Inv ∧ Armed eight ∧ eight.run = 8 ∧ eight.mcount + 1 = eight.params.nMark :=
  ⟨inv_eight, by decide, by decide, by decide⟩
theorem witness_ReadyAtTheQuotaSuspendsCapture_after :
    full.Inv ∧ Armed full ∧ full.ready = true := ⟨inv_full, by decide, by decide⟩

theorem witness_SampleMovesStateOnlyUpward_first :
    ∃ t, zero.Inv ∧ exec (.sample true) { zero with run := 8 } = .next t ∧
      stateNo { zero with run := 8 } = 0 ∧ stateNo t = 1 :=
  ⟨_, inv_zero, exec_after _ _, by decide, by decide⟩
theorem witness_SampleMovesStateOnlyUpward_ready :
    ∃ t, eight.Inv ∧ exec (.sample true) eight = .next t ∧ stateNo eight < 2 ∧ stateNo t = 2 :=
  ⟨_, inv_eight, exec_after _ _, by decide, by decide⟩
theorem witness_SampleMovesStateOnlyUpward_validating :
    ∃ t, pending.Inv ∧ exec (.sample true) pending = .next t ∧ stateNo pending = 3 :=
  ⟨_, inv_pending, exec_after _ _, by decide⟩

theorem witness_BufferIsTheWindowOfTheSamples :
    zero.Inv ∧ Armed zero ∧ zero.widx = 0 ∧ 0 < [true].length ∧ [true].length ≤ 0 + zero.params.bufCap ∧
      [true].length ≤ 63 ∧ 63 < zero.params.bufCap :=
  ⟨inv_zero, by decide, by decide, by decide, by decide, by decide, by decide⟩

theorem witness_MarkersAreNineSamplesApart_capture :
    ∃ t, eight.Inv ∧ exec (.sample true) eight = .next t ∧ t.mcount ≠ eight.mcount :=
  ⟨_, inv_eight, exec_after _ _, by decide⟩
theorem witness_MarkersAreNineSamplesApart_restart :
    zero.Inv ∧ Armed zero ∧ zero.run = (if zero.params.runRestart then 0 else 9) ∧
      (List.replicate 8 true).length < 9 := ⟨inv_zero, by decide, by decide, by decide⟩
theorem witness_MarkersAreNineSamplesApart_hold :
    held.Inv ∧ Armed held ∧ held.run = (if held.params.runRestart then 0 else 9) :=
  ⟨inv_held, by decide, by decide⟩

theorem witness_FrameSurvivesUntilOverwritten :
    good.Inv ∧ Armed good ∧ 9 < good.params.bufCap ∧ good.widx = (9 + 55) % good.params.bufCap ∧
      (List.replicate 9 true).length + 55 = good.params.bufCap :=
  ⟨inv_good, by decide, by decide, by decide, by decide⟩

/-! ## Commands and the validation -/

theorem witness_CommandWordDispatch :
    (4#32 ≠ 3#32 ∧ pending.busy = true) ∧
      (zero.busy = false ∧ 4#32 ≠ 1#32 ∧ 4#32 ≠ 2#32 ∧ 4#32 ≠ 3#32) := by decide

theorem witness_BusyIgnoresValidateAndDiscard :
    ∃ t, pending.busy = true ∧ exec .softreset pending = .next t ∧ t.busy = false :=
  ⟨_, by decide, exec_after _ _, by decide⟩
theorem witness_BusyIgnoresValidateAndDiscard_kept :
    ∃ t, pending.busy = true ∧ exec (.wrCmd 2) pending = .next t ∧ t.busy = true :=
  ⟨_, by decide, exec_after _ _, by decide⟩

theorem witness_ValidateSetsBusyAndPendOnly : good.busy = false := by decide

theorem witness_FirstAcceptedCandidateIsPending :
    good.Inv ∧ good.busy = false ∧ FirstAccepted good 0 := ⟨inv_good, by decide, first_good⟩

theorem witness_ExhaustionIsReject_no_marker :
    zero.Inv ∧ zero.busy = false ∧ NoneAccepted zero := ⟨inv_zero, by decide, by decide⟩
theorem witness_ExhaustionIsReject_marker :
    bad.Inv ∧ bad.busy = false ∧ NoneAccepted bad := ⟨inv_bad, by decide, none_bad⟩

theorem witness_NopAndReservedWordsChangeNothing :
    (Instr.cmdReserved 0 4).wf = true ∧ (4#32 ≠ 0 ∧ 4#32 ≠ 1 ∧ 4#32 ≠ 2 ∧ 4#32 ≠ 3) ∧
      (0xFFFFFFFF#32 ≠ 0 ∧ 0xFFFFFFFF#32 ≠ 1 ∧ 0xFFFFFFFF#32 ≠ 2 ∧ 0xFFFFFFFF#32 ≠ 3) := by decide

theorem witness_DiscardIsAFrameReset : zero.busy = false ∧ pending.busy = true := by decide

theorem witness_VdoneAppliesThePendingResult :
    zero.busy = false ∧ (pending.busy = true ∧ pending.pend.outcome = .accept) ∧
      (({ pending with pend := Pend.cleared } : State).busy = true ∧
        ({ pending with pend := Pend.cleared } : State).pend.outcome = .reject) := by decide

theorem witness_AcceptedFrameIsRecovered :
    good.Inv ∧ good.busy = false ∧ FirstAccepted good 0 ∧ Spells good (cand good 0) tag310037D93D :=
  ⟨inv_good, by decide, first_good, spells_good⟩

theorem witness_RejectedFrameLeavesTheTag :
    bad.Inv ∧ bad.busy = false ∧ NoneAccepted bad := ⟨inv_bad, by decide, none_bad⟩

theorem witness_ResultReadsOnlyTheCandidates :
    ∃ t t', good.busy = false ∧ ({ good with buf := good.buf.set 0 false } : State).busy = false ∧
      (∀ i, i < good.mcount → ∀ off, off < 55 →
        at_ { good with buf := good.buf.set 0 false } (cand good i + off) =
          at_ good (cand good i + off)) ∧
      good.buf.set 0 false ≠ good.buf ∧
      exec .validate good = .next t ∧
      exec .validate { good with buf := good.buf.set 0 false } = .next t' :=
  ⟨_, _, by decide, by decide, by decide, by decide, exec_after _ _, exec_after _ _⟩

theorem witness_ValidationReadsAFrozenSnapshot :
    good.busy = false ∧ pending.busy = true ∧
      ∀ i ∈ [Instr.sample true, .wrCtrl 3, .validate, .discard, .wrCmd 2, .rd 2],
        endsValidation i = false := by decide

theorem witness_EnforcedParityNeverAcceptsAMismatch :
    ∃ t u, ({ good with ctrl := ⟨true, true⟩ } : State).busy = false ∧
      (∀ i ∈ [Instr.wrCtrl 1], endsValidation i = false) ∧
      execAll [.validate, .wrCtrl 1] { good with ctrl := ⟨true, true⟩ } = .next t ∧
      exec .vdone t = .next u ∧ u.outcome = .accept :=
  ⟨_, _, by decide, by decide, rfl, exec_after _ _, by decide⟩

theorem witness_PendIsUnreadWhileNotBusy :
    ∃ t, good.busy = false ∧ exec .validate good = .next t ∧ t.busy = true :=
  ⟨_, by decide, exec_after _ _, by decide⟩

/-! ## Host access, reset, encoding -/

theorem witness_ParamReadsTheParameters : p64.wf ∧ ({ p64 with bufCap := 65536 } : Params).wf := by
  decide

theorem witness_MarkWordsAreTheMarkers :
    full.Inv ∧ ({ zero with params := { p64 with nMark := 1 } } : State).params.nMark ≤ (4 : Fin 5).val :=
  ⟨inv_full, by decide⟩

theorem witness_WriteCtrlTakesTwoBits :
    ∃ t, exec (.wrCtrl 2) zero = .next t ∧ (2#32).getLsbD 0 = false :=
  ⟨_, exec_after _ _, by decide⟩

theorem witness_WritesToReadOnlyWordsAreIgnored :
    2 ≤ (2#4).toNat ∧ 2 ≤ (4#4).toNat ∧ 2 ≤ (8#4).toNat ∧ 2 ≤ (15#4).toNat := by decide

theorem witness_CmdAndUnmappedWordsReadZero :
    decode (.host (hostWord true false 14 1)) = .ok (.wrRoMarks 6 1) ∧
      decode (.host (hostWord true false 15 1)) = .ok (.wrRoMarks 7 1) := by decide

theorem witness_ResetSetsEveryElementButBuf :
    (⟨true, false, 0, 0⟩ : Cycle).rst = true ∧ pending.events = [] := by decide

theorem witness_OneResetIsComplete :
    ∃ t, exec .reset pending = .next t ∧ pending.Inv := ⟨_, exec_after _ _, inv_pending⟩

theorem witness_DecodeOfEncodeIsTheInstruction :
    (Instr.cmdReserved 0 4).wf = true ∧ (Instr.wrRoMarks 7 0xFFFFFFFF).wf = true := by decide

theorem witness_EncodeOfDecodeIsTheWord :
    decode (.host 0x1F00000001) = .ok (.rd 15) ∧ decode (.host 0x2100000001) = .ok (.wrCmd 1) := by
  decide

theorem witness_OpcodeTableRowsDecode :
    (0x2F00000000#38).getLsbD 37 = true ∧ (0x1F00000000#38).getLsbD 36 = true := by decide

/-! ## The machine as a whole -/

theorem witness_StepRunsTheDecodedEvent :
    ({ zero with events := [.command 1] } : State).events = [.command 1] ∧
      decode (.command 1) = .ok .validate ∧
      ({ zero with events := [.host 0] } : State).events = [.host 0] ∧
      decode (.host 0) = .error .hostIdle ∧ zero.events = [] ∧ zero.cycles = [] := by decide

theorem witness_EventsKeepParamsAndSchedule :
    ∃ t, exec .reset { pending with events := [.vdone] } = .next t := ⟨_, exec_after _ _⟩

theorem witness_InvariantHoldsAfterReset :
    p64.wf ∧ ¬ ({ p64 with nMark := 6 } : Params).wf := by decide

theorem witness_StepKeepsTheInvariant :
    ∃ t, { eight with events := [.sample 0b11] }.Inv ∧
      step { eight with events := [.sample 0b11] } = .next t :=
  ⟨_, by constructor <;> decide, rfl⟩

theorem witness_AperrStaysClearUntilAnAccept :
    ∃ t, { bad with events := [.vdone], busy := true }.aperr = false ∧
      step { bad with events := [.vdone], busy := true } = .next t ∧ t.outcome = .reject :=
  ⟨_, by decide, rfl, by decide⟩

theorem witness_OnlyAcceptAndResetsWriteTheTag :
    ∃ t, exec .vdone pending = .next t ∧ t.tag ≠ pending.tag := ⟨_, exec_after _ _, by decide⟩
theorem witness_OnlyAcceptAndResetsWriteTheTag_clear :
    ∃ t, exec .softreset { zero with tag := tag310037D93D } = .next t ∧
      t.tag ≠ tag310037D93D := ⟨_, exec_after _ _, by decide⟩

theorem witness_WritersOfMarkersCtrlAndFrontEnd_sample :
    ∃ t, exec (.sample true) { eight with widx := 9 } = .next t ∧ t.marks ≠ eight.marks :=
  ⟨_, exec_after _ _, by decide⟩
theorem witness_WritersOfMarkersCtrlAndFrontEnd_reset :
    ∃ t, exec .discard full = .next t ∧ t.marks ≠ full.marks := ⟨_, exec_after _ _, by decide⟩
theorem witness_WritersOfMarkersCtrlAndFrontEnd_ctrl :
    ∃ t, exec (.wrCtrl 0) zero = .next t ∧ t.ctrl ≠ zero.ctrl := ⟨_, exec_after _ _, by decide⟩
theorem witness_WritersOfMarkersCtrlAndFrontEnd_fe :
    ∃ t, exec .reset { zero with fe := ⟨true, true, true, 2⟩ } = .next t ∧
      t.fe ≠ ⟨true, true, true, 2⟩ := ⟨_, exec_after _ _, by decide⟩

/-! ## Clock cycles and the frame from end to end -/

theorem witness_SameCycleOrder_reset :
    pending.events = [] ∧ (⟨true, false, 3, 0x2100000001⟩ : Cycle).rst = true := by decide
/-- A block without a front end, its sampler armed one short of the ninth one. -/
def eightExt : State := { eight with params := { p64 with fePresent := false } }

/-- The front end's sample due, a 0, in the cycle of the input levels below. -/
def eightFe : State := { eight with fe := ⟨true, false, true, 1⟩ }

theorem inv_eightExt : eightExt.Inv := by constructor <;> decide
theorem inv_eightFe : eightFe.Inv := by constructor <;> decide

/-- Nothing at all, then the host alone, the external sample alone, and VDONE alone. -/
theorem witness_SameCycleOrder_one :
    sampleOf eightExt ⟨false, true, 0b01, 0⟩ = [] ∧ hostOf ⟨false, true, 0b01, 0⟩ = [] ∧
      completionOf eightExt = [] ∧
      hostOf ⟨false, false, 0, 0x2000000003⟩ = [.wrCtrl 3] ∧
      sampleOf eightExt ⟨false, false, 0b11, 0⟩ = [.sample true] ∧
      completionOf pendingExt = [.vdone] ∧ completionOf { pendingExt with vcnt := 2 } = [] := by decide

/-- The host and VDONE without a sample, and both with one, from either port. -/
theorem witness_SameCycleOrder_vdone :
    (sampleOf pendingExt ⟨false, false, 0, 0x2000000003⟩ = [] ∧
      sampleOf pendingExt ⟨false, false, 0b11, 0x2000000003⟩ = [.sample true] ∧
      hostOf ⟨false, false, 0, 0x2000000003⟩ = [.wrCtrl 3] ∧ completionOf pendingExt = [.vdone]) ∧
      sampleOf { pending with fe := ⟨true, false, true, 1⟩ } ⟨false, true, 0b11, 0⟩ =
        [.sample false] ∧
      sampleOf { pending with fe := ⟨true, false, true, 2⟩ } ⟨false, true, 0b11, 0⟩ = [] := by decide

/-- A sample with a transaction other than VALIDATE while BUSY is 0: CTRL.EN cleared in the cycle of a
sample, which is taken all the same. -/
theorem witness_SameCycleOrder_ctrl :
    sampleOf eightExt ⟨false, false, 0b11, 0x2000000000⟩ = [.sample true] ∧
      hostOf ⟨false, false, 0b11, 0x2000000000⟩ = [.wrCtrl 0] ∧ completionOf eightExt = [] ∧
      at_ (after (.wrCtrl 0) (after (.sample true) eightExt)) 63 = true := by decide

theorem witness_SameCycleOrder_validate_external :
    eightExt.Inv ∧ sampleOf eightExt ⟨false, false, 0b11, 0x2100000001⟩ = [.sample true] ∧
      Armed eightExt := ⟨inv_eightExt, by decide, by decide⟩
theorem witness_SameCycleOrder_validate_frontEnd :
    eightFe.Inv ∧ eightFe.params.fePresent = true ∧
      sampleOf eightFe ⟨false, true, 0, 0x2100000001⟩ = [.sample false] ∧ Armed eightFe :=
  ⟨inv_eightFe, by decide, by decide, by decide⟩

/-- BUSY with a read: the last cycle of the validation, and the countdown's two boundaries. -/
theorem witness_SameCycleOrder_busy :
    pendingExt.busy = true ∧ pendingExt.vcnt ≤ 1 ∧ ¬ ({ pendingExt with vcnt := 2 } : State).vcnt ≤ 1 ∧
      ({ pendingExt with vcnt := 0 } : State).vcnt ≤ 1 ∧
      hostOf ⟨false, false, 0b11, 0x1200000000⟩ = [.rd 2] := by decide

theorem witness_CycleIsItsSteps :
    { zero with cycles := [⟨false, true, 0, 0x2100000001⟩] }.events = [] ∧
      { zero with cycles := [⟨false, true, 0, 0x2100000001⟩] }.cycles =
        [⟨false, true, 0, 0x2100000001⟩] := by decide

theorem witness_FrontEndCycle_edge :
    (⟨true, true, false, 0⟩ : FrontEnd).cnt = 0 ∧ (⟨true, true, false, 0⟩ : FrontEnd).s2 ≠ false ∧
      { zero with cycles := [⟨false, true, 0, 0⟩], fe := ⟨true, true, false, 0⟩ }.events = [] ∧
      zero.params.fePresent = true := by decide
theorem witness_FrontEndCycle_presents :
    { zero with cycles := [⟨false, true, 0, 0⟩], fe := ⟨true, true, true, 1⟩ }.fe.cnt = 1 ∧
      zero.events = [] ∧ zero.params.fePresent = true := by decide

theorem witness_SampleComesDelayCyclesAfterTheEdge :
    1 ≤ 3 ∧ (⟨true, true, false, 0⟩ : FrontEnd).cnt = 0 ∧ (true ≠ false) ∧
      [true, false, true] ≠ [] ∧ [true, false, true].length ≤ 3 := by decide

theorem witness_HighLineAfterResetGivesOneSample : 1 ≤ 1 ∧ 3 = 2 + 1 := by decide

theorem witness_CompletionComesAtTheLatency :
    ∃ t, good.Inv ∧ good.busy = false ∧ exec .validate good = .next t ∧
      (∀ c ∈ [(⟨false, true, 2, 0⟩ : Cycle), ⟨false, false, 0, 0⟩], Quiet c) ∧
      [(⟨false, true, 2, 0⟩ : Cycle), ⟨false, false, 0, 0⟩].length = good.params.validateLatency :=
  ⟨_, inv_good, by decide, exec_after _ _, by decide, by decide⟩

theorem witness_EveryValidationEnds :
    { pending with cycles := List.replicate 2 ⟨false, true, 3, 0x2100000001⟩ }.Inv ∧
      pending.busy = true ∧ pending.events = [] ∧
      pending.params.validateLatency ≤ (List.replicate 2 (⟨false, true, 3, 0x2100000001⟩ : Cycle)).length :=
  ⟨by constructor <;> decide, by decide, by decide, by decide⟩

theorem witness_DisabledBlockIsQuiescent :
    ({ zero with ctrl := ⟨false, false⟩ } : State).ctrl.en = false ∧ zero.busy = false ∧
      zero.events = [] ∧ ∀ c ∈ [(⟨false, true, 3, 0⟩ : Cycle)], Quiet c := by decide

theorem witness_SampledFrameIsRecovered :
    zero.Inv ∧ Armed zero ∧ zero.mcount = 0 ∧ (zero.run = 0 ∨ 0 < 12) ∧
      (#v[true, false, true, true] : Vector Bit 4)[zero.params.colIdx] = false :=
  ⟨inv_zero, by decide, by decide, by decide, by decide⟩

end Sys2Proof.Tests
end

section
/-! PROOFS. The registers that show the block's state: what each field of STATUS and each byte of TXT0
to TXT2 reads, then the obligations O28 and O31 (30_encoding.md R82, R86). -/

open Sys2Proof.Claim

namespace Sys2Proof.Machine

/-- The event RESET leaves the state of `hardReset` (70_reset_and_hazards.md R220). -/
theorem exec_reset_eq_hardReset (s : State) : exec .reset s = .next (hardReset s) :=
  exec_eq_effect .reset s

/-! ## The fields of STATUS -/

theorem controlState_bits (s : State) :
    (controlState s).bits =
      if s.busy then 3#2 else if s.ready || s.done then 2#2 else if 0 < s.mcount then 1#2
      else 0#2 := by
  simp only [controlState, apply_ite ControlState.bits]
  rfl

theorem statusWord_state (s : State) :
    (statusWord s).extractLsb' 0 2 = (controlState s).bits :=
  BitVec.extractLsb'_append_eq_right

theorem statusWord_flags (s : State) :
    (statusWord s).getLsbD 2 = s.ready ∧ (statusWord s).getLsbD 3 = s.done ∧
      (statusWord s).getLsbD 4 = s.busy ∧ (statusWord s).getLsbD 5 = s.perr ∧
      (statusWord s).getLsbD 8 = s.aperr := by
  simp only [statusWord, BitVec.getLsbD_append]
  simp

theorem statusWord_fields (s : State) :
    (statusWord s).extractLsb' 6 2 = s.outcome.bits ∧
      (statusWord s).extractLsb' 9 3 = BitVec.ofNat 3 s.mcount ∧
      (statusWord s).extractLsb' 12 4 = BitVec.ofNat 4 s.run ∧
      (statusWord s).extractLsb' 16 16 = BitVec.ofNat 16 s.widx := by
  simp (disch := decide) only [statusWord, BitVec.extractLsb'_append_eq_of_le, Nat.reduceSub,
    BitVec.extractLsb'_append_eq_right, BitVec.extractLsb'_eq_self, and_self]

theorem statusWord_hardReset (s : State) : statusWord (hardReset s) = 0 := by
  simp [statusWord, controlState, ControlState.bits, Verdict.bits]

/-- Settles O28, field by field; RESET clears every field. -/
theorem statusFields : Obligations.StatusFields := by
  intro s
  rw [← controlState_bits, regRead_status]
  obtain ⟨hready, hdone, hbusy, hperr, haperr⟩ := statusWord_flags s
  obtain ⟨houtcome, hmcount, hrun, hwidx⟩ := statusWord_fields s
  exact ⟨statusWord_state s, hready, hdone, hbusy, hperr, houtcome, haperr, hmcount, hrun, hwidx,
    hardReset s, exec_reset_eq_hardReset s, statusWord_hardReset s⟩

/-! ## The text words -/

/-- `Hex` is the ASCII code of the digit: no value of a nibble overflows the byte. -/
theorem hexChar_toNat (n : Nibble) : (hexChar n).toNat = hexCode n.toNat := by
  revert n; decide

/-- Byte `j` of a word written as four bytes, the least significant last (20_memory.md R55). -/
theorem extractLsb'_of_bytes (b3 b2 b1 b0 : Byte) (j : Fin 4) :
    (b3 ++ b2 ++ b1 ++ b0 : Word).extractLsb' (8 * j.val) 8 = #v[b0, b1, b2, b3][j] :=
  match j with
  | 0 => BitVec.extractLsb'_append_eq_right
  | 1 => (BitVec.extractLsb'_append_eq_of_le (by decide)).trans BitVec.extractLsb'_append_eq_right
  | 2 => by
    simp (disch := decide) only [BitVec.extractLsb'_append_eq_of_le]
    exact BitVec.extractLsb'_append_eq_right
  | 3 => by
    simp (disch := decide) only [BitVec.extractLsb'_append_eq_of_le]
    exact BitVec.extractLsb'_eq_self

/-- Character `k` is byte `k mod 4` of register `TXT0 + k div 4` (30_encoding.md R86). -/
theorem regRead_txt_byte (k : Fin 10) (s : State) :
    (regRead (BitVec.ofNat 4 (6 + k.val / 4)) s).extractLsb' (8 * (k.val % 4)) 8 =
      hexChar s.tag[k] :=
  match k with
  | 0 => extractLsb'_of_bytes _ _ _ _ 0
  | 1 => extractLsb'_of_bytes _ _ _ _ 1
  | 2 => extractLsb'_of_bytes _ _ _ _ 2
  | 3 => extractLsb'_of_bytes _ _ _ _ 3
  | 4 => extractLsb'_of_bytes _ _ _ _ 0
  | 5 => extractLsb'_of_bytes _ _ _ _ 1
  | 6 => extractLsb'_of_bytes _ _ _ _ 2
  | 7 => extractLsb'_of_bytes _ _ _ _ 3
  | 8 => (BitVec.extractLsb'_setWidth_of_le (by decide)).trans BitVec.extractLsb'_append_eq_right
  | 9 => (BitVec.extractLsb'_setWidth_of_le (by decide)).trans BitVec.extractLsb'_append_eq_left

theorem txt2Word_high (t : Vector Nibble 10) : (txt2Word t).extractLsb' 16 16 = 0 := by
  refine BitVec.eq_of_getLsbD_eq fun i _ => ?_
  simp [txt2Word]

/-- Every character of a tag of zeros is `0x30`, the digit 0. -/
theorem textWords_hardReset (s : State) :
    regRead 6 (hardReset s) = 0x30303030#32 ∧ regRead 7 (hardReset s) = 0x30303030#32 ∧
      regRead 8 (hardReset s) = 0x00003030#32 := by
  simp only [regRead_txt0, regRead_txt1, regRead_txt2, hardReset_tag]
  decide

/-- Settles O31, byte by byte; RESET makes every character the digit 0. -/
theorem textWordsAreTheHexDigits : Obligations.TextWordsAreTheHexDigits := fun s =>
  ⟨fun k => (congrArg BitVec.toNat (regRead_txt_byte k s)).trans (hexChar_toNat _),
    txt2Word_high s.tag, hardReset s, exec_reset_eq_hardReset s, textWords_hardReset s⟩

end Sys2Proof.Machine
end

section
/-! PROOFS. The buffer and the snapshot a validation reads: which events write BUF and where, what an
event changes while BUSY is 1, then the obligations O2 and O24 (20_memory.md R51, R64). -/

open Sys2Proof.Claim

namespace Sys2Proof.Machine

/-- The only state an event leads to is the one `effect` gives. -/
theorem exec_eq_next_iff (i : Instr) (s t : State) : exec i s = .next t ↔ effect i s = t := by
  rw [exec_eq_effect, Host.Outcome.next.injEq]

/-! ## An event while BUSY is 1 -/

/-- A host write that does not carry SOFTRESET writes at most CTRL while BUSY is 1
(41_commands.md R120, R121). -/
theorem regWrite_of_busy (a : RegAddr) (v : Word) (s : State) (hbusy : s.busy = true)
    (hv : a = 1 → v ≠ 3#32) : ∃ c, regWrite a v s = { s with ctrl := c } := by
  obtain h | ⟨-, h⟩ | ⟨ha, h⟩ := regWrite_cases a v s
  · exact ⟨s.ctrl, h⟩
  · exact ⟨ctrlOfWord v, h⟩
  · exact ⟨s.ctrl, h.trans (runCommand_busy v s (hv ha) hbusy)⟩

/-- Everything an event can do to a validation in progress that it does not end: a host write may set
CTRL, a transaction may return data, and nothing else changes. -/
theorem effect_of_busy (i : Instr) (s : State) (hbusy : s.busy = true)
    (hi : endsValidation i = false) : ∃ c r, effect i s = { s with ctrl := c, rdata := r } := by
  cases i with
  | sample b =>
    exact ⟨s.ctrl, s.rdata, takeSample_masked b s ((samplerMasked_eq_true s).2 (.inl hbusy))⟩
  | rd a => exact ⟨s.ctrl, some (regRead a s), rfl⟩
  | wrCtrl v => exact ⟨ctrlOfWord v, s.rdata, rfl⟩
  | wrCmd v =>
    have hv : v ≠ 3#32 := by simpa [endsValidation] using hi
    exact ⟨s.ctrl, s.rdata, runCommand_busy v s hv hbusy⟩
  | hostReserved11 a v =>
    have hv : a = 1 → v ≠ 3#32 := by simpa [endsValidation] using hi
    obtain ⟨c, hc⟩ := regWrite_of_busy a v s hbusy hv
    exact ⟨c, some 0, congrArg (returnData 0) hc⟩
  | validate => exact ⟨s.ctrl, s.rdata, enterValidation_busy s hbusy⟩
  | discard => exact ⟨s.ctrl, s.rdata, discardFrame_busy s hbusy⟩
  | wrRoStatusParam | wrRoTagText | wrRoMarks | nop | cmdReserved => exact ⟨s.ctrl, s.rdata, rfl⟩
  | softreset | vdone | reset => cases hi

/-- Nor do any number of such events change anything but CTRL and the data returned. -/
theorem execAll_of_busy (is : List Instr) (s : State) (hbusy : s.busy = true)
    (his : ∀ i ∈ is, endsValidation i = false) :
    ∃ c r, execAll is s = .next { s with ctrl := c, rdata := r } := by
  induction is generalizing s with
  | nil => exact ⟨s.ctrl, s.rdata, rfl⟩
  | cons i is ih =>
    obtain ⟨hi, his⟩ := List.forall_mem_cons.1 his
    obtain ⟨c, r, h⟩ := effect_of_busy i s hbusy hi
    rw [execAll_cons, h]
    exact ih { s with ctrl := c, rdata := r } hbusy his

/-- Settles O24: while BUSY is 1 an event that does not end the validation changes CTRL and the data
returned at most, and the validation reads neither again once its result is saved in PEND. -/
theorem validationReadsAFrozenSnapshot : Obligations.ValidationReadsAFrozenSnapshot := by
  refine ⟨fun b s hbusy => ?_, fun s hfree => ?_, fun is s hbusy his => ?_⟩
  · exact (exec_eq_next_iff (.sample b) s s).2
      (takeSample_masked b s ((samplerMasked_eq_true s).2 (.inl hbusy)))
  · exact ⟨_, (exec_eq_next_iff .validate s _).2 (enterValidation_free s hfree), rfl, rfl⟩
  · obtain ⟨c, r, h⟩ := execAll_of_busy is s hbusy his
    exact ⟨_, h, hbusy, rfl, rfl, rfl, rfl, rfl, rfl, rfl, rfl⟩

/-! ## The writes to BUF -/

/-- The preamble detector leaves alone what `appendBit` writes. -/
theorem detect_buf_widx_params (b : Bit) (w : Nat) (s : State) :
    (detect b w s).buf = s.buf ∧ (detect b w s).widx = s.widx ∧
      (detect b w s).params = s.params := by
  obtain ⟨m, c, r, y, h, -⟩ := detect_cases b w s
  rw [h]
  exact ⟨rfl, rfl, rfl⟩

/-- An accepted SAMPLE sets entry WIDX and advances WIDX (40_sampler.md R100, R101). -/
theorem takeSample_of_armed (b : Bit) (s : State) (h : Armed s) :
    (takeSample b s).buf = s.buf.set s.widx b ∧ (takeSample b s).widx = nextIdx s ∧
      (takeSample b s).params = s.params := by
  rw [takeSample_accepted b s ((samplerMasked_eq_false s).2 h)]
  exact detect_buf_widx_params b (nextIdx s) (appendBit b s)

/-- What reads of the buffer see after an accepted SAMPLE. -/
theorem at_takeSample_of_armed (b : Bit) (s : State) (h : Armed s) (x : Nat) :
    at_ (takeSample b s) x = bufRead (s.buf.set s.widx b) s.params.bufCap x := by
  obtain ⟨hbuf, -, hparams⟩ := takeSample_of_armed b s h
  rw [at_, hbuf, hparams]

@[simp] theorem publish_buf (s : State) : (publish s).buf = s.buf := by
  cases h : s.pend.outcome
  · rw [publish_accept s h]
  · rw [publish_reject s h]

@[simp] theorem enterValidation_buf (s : State) : (enterValidation s).buf = s.buf := by
  cases h : s.busy
  · rw [enterValidation_free s h]
  · rw [enterValidation_busy s h]

@[simp] theorem leaveValidation_buf (s : State) : (leaveValidation s).buf = s.buf := by
  cases h : s.busy
  · rw [leaveValidation_free s h]
  · rw [leaveValidation_busy s h]; simp

@[simp] theorem discardFrame_buf (s : State) : (discardFrame s).buf = s.buf := by
  cases h : s.busy
  · rw [discardFrame_free s h, frameReset_buf]
  · rw [discardFrame_busy s h]

@[simp] theorem softReset_buf (s : State) : (softReset s).buf = s.buf := rfl

@[simp] theorem runCommand_buf (v : Word) (s : State) : (runCommand v s).buf = s.buf := by
  obtain h | ⟨-, h⟩ | ⟨-, -, h⟩ | ⟨-, -, h⟩ := runCommand_cases v s <;> simp [h]

@[simp] theorem regWrite_buf (a : RegAddr) (v : Word) (s : State) :
    (regWrite a v s).buf = s.buf := by
  obtain h | ⟨-, h⟩ | ⟨-, h⟩ := regWrite_cases a v s <;> simp [h]

/-- No event but SAMPLE writes the buffer. -/
theorem effect_buf_of_not_sample (i : Instr) (s : State) (hi : ∀ b, i ≠ .sample b) :
    (effect i s).buf = s.buf := by
  cases i with
  | sample b => exact absurd rfl (hi b)
  | wrCmd v => exact runCommand_buf v s
  | hostReserved11 a v => exact regWrite_buf a v s
  | validate => exact enterValidation_buf s
  | discard => exact discardFrame_buf s
  | vdone => exact leaveValidation_buf s
  | _ => rfl

/-- Settles O2: an accepted SAMPLE sets the one entry WIDX, which the invariant keeps inside BUF, and
no other event writes BUF. -/
theorem onlySampleWritesTheBufferAtWidx : Obligations.OnlySampleWritesTheBufferAtWidx := by
  refine ⟨fun b s hinv harmed => ?_, fun i s t hexec hbuf => ?_⟩
  · obtain ⟨hbuf, hwidx, -⟩ := takeSample_of_armed b s harmed
    have hlen : s.buf.length = s.params.bufCap := (Memory.wf_iff s).1 hinv.buf_wf
    refine ⟨takeSample b s, exec_eq_effect (.sample b) s, ?_, hwidx, ?_, fun x hx => ?_⟩
    · rw [hbuf, List.length_set]
    · rw [at_takeSample_of_armed b s harmed,
        bufRead_set_same s.buf s.params.bufCap s.widx b hinv.widx_lt hlen]
    · rw [at_takeSample_of_armed b s harmed,
        bufRead_set_other s.buf s.params.bufCap s.widx x b hx]
  · by_contra hi
    rw [← (exec_eq_next_iff i s t).1 hexec] at hbuf
    exact hbuf (effect_buf_of_not_sample i s (not_exists.1 hi))

end Sys2Proof.Machine
end

section
/-! PROOFS. The register words as numbers and the words that carry nothing: what TAG_HI, TAG_LO and
MARK0 to MARK4 read, and that a host transaction decodes to the write at its address, then the
obligations O30, O32 and O33 (30_encoding.md R84, R87, R88). -/

namespace Sys2Proof.Machine

/-! ## The tag words -/

/-- The concatenation `{x, y}` as a number: the low part takes `n` bits (00_scope.md R11). -/
theorem append_toNat {m n : Nat} (x : BitVec m) (y : BitVec n) :
    (x ++ y).toNat = x.toNat * 2 ^ n + y.toNat := by
  rw [BitVec.toNat_append, ← Nat.shiftLeft_add_eq_or_of_lt y.isLt, Nat.shiftLeft_eq]

theorem tagHiWord_toNat (t : Vector Nibble 10) :
    (tagHiWord t).toNat = t[0].toNat * 16 + t[1].toNat :=
  (BitVec.toNat_setWidth_of_le (by decide)).trans (append_toNat t[0] t[1])

theorem tagLoWord_toNat (t : Vector Nibble 10) :
    (tagLoWord t).toNat =
      t[2].toNat * 16 ^ 7 + t[3].toNat * 16 ^ 6 + t[4].toNat * 16 ^ 5 + t[5].toNat * 16 ^ 4 +
        t[6].toNat * 16 ^ 3 + t[7].toNat * 16 ^ 2 + t[8].toNat * 16 + t[9].toNat := by
  simp only [tagLoWord, append_toNat]
  ring

/-- A tag of zeros reads 0 in both words. -/
theorem tagWords_hardReset (s : State) :
    regRead 4 (hardReset s) = 0 ∧ regRead 5 (hardReset s) = 0 := by
  simp only [regRead_tagHi, regRead_tagLo, hardReset_tag]
  decide

/-- Settles O30: each word is the number of the characters concatenated in it. -/
theorem tagWordsAreTheTagNumber : Obligations.TagWordsAreTheTagNumber := fun s =>
  ⟨tagHiWord_toNat s.tag, tagLoWord_toNat s.tag, hardReset s, exec_reset_eq_hardReset s,
    tagWords_hardReset s⟩

/-! ## The marker words -/

theorem regRead_mark (i : Fin 5) (s : State) :
    regRead (BitVec.ofNat 4 (9 + i.val)) s = markWord s.marks[i] :=
  match i with
  | 0 | 1 | 2 | 3 | 4 => rfl

/-- A marker that fits in 16 bits is read whole (30_encoding.md R87). -/
theorem markWord_toNat (m : Nat) (h : m < 2 ^ 16) : (markWord m).toNat = m := by
  rw [markWord, BitVec.toNat_setWidth_of_le (by decide), BitVec.toNat_ofNat, Nat.mod_eq_of_lt h]

theorem markWord_zero : markWord 0 = 0 := rfl

/-- A marker is a buffer index, and BUF_CAP is at most 65536 (00_scope.md R8). -/
theorem State.Inv.mark_lt_word {s : State} (hinv : s.Inv) (i : Fin 5) : s.marks[i] < 2 ^ 16 := by
  obtain ⟨⟨-, hcap⟩, -⟩ := hinv.params_wf
  exact (hinv.marks_lt i).trans_le hcap

/-- A slot the quota never reaches holds 0 (10_state.md R41). -/
theorem State.Inv.mark_beyond_quota {s : State} (hinv : s.Inv) (i : Fin 5)
    (hi : s.params.nMark ≤ i.val) : s.marks[i] = 0 :=
  hinv.marks_unused i (hinv.mcount_le.trans hi)

theorem regRead_mark_hardReset (i : Fin 5) (s : State) :
    regRead (BitVec.ofNat 4 (9 + i.val)) (hardReset s) = 0 := by
  rw [regRead_mark, hardReset_marks, Fin.getElem_fin, Vector.getElem_replicate, markWord_zero]

/-- Settles O32: under the invariant a marker fits in its word and a slot past the quota holds 0. -/
theorem markWordsAreTheMarkers : Obligations.MarkWordsAreTheMarkers := by
  refine fun s hinv => ⟨fun i => ?_, fun i hi => ?_, hardReset s, exec_reset_eq_hardReset s,
    fun i => regRead_mark_hardReset i s⟩
  · rw [regRead_mark, markWord_toNat _ (hinv.mark_lt_word i)]
  · rw [regRead_mark, hinv.mark_beyond_quota i hi, markWord_zero]

/-! ## Host transactions -/

/-- The four fields of a format H word (30_encoding.md R72). -/
theorem hostWord_fields (we re : Bit) (a : RegAddr) (v : Word) :
    (hostWord we re a v).getLsbD 37 = we ∧ (hostWord we re a v).getLsbD 36 = re ∧
      (hostWord we re a v).extractLsb' 32 4 = a ∧ (hostWord we re a v).extractLsb' 0 32 = v := by
  refine ⟨?_, ?_, ?_, BitVec.extractLsb'_append_eq_right⟩
  · simp only [hostWord, BitVec.getLsbD_append]
    simp
  · simp only [hostWord, BitVec.getLsbD_append]
    simp
  · exact (BitVec.extractLsb'_append_eq_of_le (by decide)).trans BitVec.extractLsb'_append_eq_right

/-- The transaction `{we, re} = 10` is the WR of its address and data. -/
theorem decode_hostWord_write (a : RegAddr) (v : Word) :
    decode (.host (hostWord true false a v)) = .ok (decodeWrite a v) := by
  obtain ⟨hwe, hre, haddr, hdata⟩ := hostWord_fields true false a v
  simp only [decode, decodeHost, hwe, hre, haddr, hdata]

/-- Whichever row of the table a WR is, it is the register write at its address
(43_host_access.md R172). -/
theorem effect_decodeWrite (a : RegAddr) (v : Word) (s : State) :
    effect (decodeWrite a v) s = regWrite a v s := by
  unfold decodeWrite
  split_ifs with h0 h1
  · obtain rfl : a = 0 := BitVec.eq_of_toNat_eq h0
    rfl
  · obtain rfl : a = 1 := BitVec.eq_of_toNat_eq h1
    rfl
  all_goals exact (regWrite_ignored a v s (by omega)).symm

/-- A WR to one of the words 2 to 15 changes no state (43_host_access.md R174). -/
theorem exec_of_decode_write_ignored {a : RegAddr} {v : Word} {i : Instr} (s : State)
    (ha : 2 ≤ a.toNat) (hi : decode (.host (hostWord true false a v)) = .ok i) :
    exec i s = .next s := by
  obtain rfl : decodeWrite a v = i := Except.ok.inj ((decode_hostWord_write a v).symm.trans hi)
  rw [exec_eq_effect, effect_decodeWrite, regWrite_ignored a v s ha]

/-- Settles O33: RegRead has no register at 1, 14 and 15, and 14 and 15 are above CTRL and CMD. -/
theorem cmdAndUnmappedWordsReadZero : Obligations.CmdAndUnmappedWordsReadZero := fun s _ =>
  ⟨regRead_cmd s, rfl, rfl, fun _ hi => exec_of_decode_write_ignored s (by decide) hi,
    fun _ hi => exec_of_decode_write_ignored s (by decide) hi⟩

end Sys2Proof.Machine
end

section
/-! PROOFS. The sampler event by event and the timed front end: what an accepted SAMPLE does to
WIDX, DONE, RUN and the markers, and what one clock edge does to the front end, then the obligations
O1, O3, O4, O5, O6 and O53 (40_sampler.md R102 to R106, R111 to R113). -/

open Sys2Proof.Claim

namespace Sys2Proof.Machine

/-- SAMPLE leads to the state `takeSample` gives. -/
theorem exec_sample_eq_takeSample (b : Bit) (s : State) :
    exec (.sample b) s = .next (takeSample b s) :=
  exec_eq_effect (.sample b) s

/-- Settles O1: the masked sampler answers the state it was given. -/
theorem sampleDroppedWhileMasked : Obligations.SampleDroppedWhileMasked := fun b s hmasked =>
  (exec_eq_next_iff (.sample b) s s).2
    (takeSample_masked b s ((samplerMasked_eq_true s).2 hmasked))

/-! ## WIDX and DONE -/

theorem nextIdx_of_last (s : State) (hlt : s.widx < s.params.bufCap)
    (hlast : s.widx = s.params.bufCap - 1) : nextIdx s = 0 := by
  have hcap : s.widx + 1 = s.params.bufCap := by omega
  rw [nextIdx, hcap, Nat.mod_self]

theorem nextIdx_of_not_last (s : State) (hlt : s.widx < s.params.bufCap)
    (hlast : s.widx ≠ s.params.bufCap - 1) : nextIdx s = s.widx + 1 :=
  Nat.mod_eq_of_lt (by omega)

theorem doneAfterAppend_of_wrap (s : State) (h : nextIdx s = 0) : doneAfterAppend s = true := by
  simp [doneAfterAppend, h]

theorem doneAfterAppend_of_no_wrap (s : State) (h : nextIdx s ≠ 0) :
    doneAfterAppend s = s.done := by
  simp [doneAfterAppend, h]

theorem detect_done (b : Bit) (w : Nat) (s : State) : (detect b w s).done = s.done := by
  obtain ⟨m, c, r, y, h, -⟩ := detect_cases b w s
  rw [h]

theorem takeSample_done_of_armed (b : Bit) (s : State) (h : Armed s) :
    (takeSample b s).done = doneAfterAppend s := by
  rw [takeSample_accepted b s ((samplerMasked_eq_false s).2 h), detect_done, appendBit_done]

/-- Settles O3: WIDX advances to 0 from the last entry only, and DONE follows the advance. -/
theorem sampleSetsDoneOnTheWrap : Obligations.SampleSetsDoneOnTheWrap := by
  intro b s hinv harmed
  obtain ⟨-, hwidx, -⟩ := takeSample_of_armed b s harmed
  have hdone := takeSample_done_of_armed b s harmed
  refine ⟨takeSample b s, exec_sample_eq_takeSample b s, fun hlast => ?_, fun hlast => ?_⟩
  · have hnext := nextIdx_of_last s hinv.widx_lt hlast
    refine ⟨hwidx.trans hnext, hdone.trans (doneAfterAppend_of_wrap s hnext), ?_⟩
    rw [at_takeSample_of_armed b s harmed,
      bufRead_set_same s.buf s.params.bufCap s.widx b hinv.widx_lt
        ((Memory.wf_iff s).1 hinv.buf_wf)]
  · have hnext := nextIdx_of_not_last s hinv.widx_lt hlast
    exact ⟨hwidx.trans hnext,
      hdone.trans (doneAfterAppend_of_no_wrap s (hnext ▸ Nat.succ_ne_zero s.widx))⟩

/-! ## RUN and the markers -/

/-- SAMPLE writes neither BUSY nor CTRL, so the sample after it is accepted too. -/
theorem armed_takeSample (b : Bit) (s : State) (h : Armed s) : Armed (takeSample b s) := by
  obtain ⟨bu, w, d, m, c, r, y, hs⟩ := takeSample_fields b s
  rw [hs]
  exact h

/-- Nothing but a ninth one with the quota open records a marker (40_sampler.md R104, R105). -/
theorem takeSample_keeps_markers (b : Bit) (s : State)
    (h : b = true → s.run = 8 → ¬ s.mcount < s.params.nMark) :
    (takeSample b s).marks = s.marks ∧ (takeSample b s).mcount = s.mcount ∧
      (takeSample b s).ready = s.ready := by
  obtain hs | ⟨-, -, hs⟩ := takeSample_cases b s
  · rw [hs]
    exact ⟨rfl, rfl, rfl⟩
  · obtain ⟨m, c, r, y, hd, hkept | ⟨hb, hrun, hopen, -⟩⟩ :=
      detect_cases b (nextIdx s) (appendBit b s)
    · rw [hs, hd]
      exact hkept
    · exact absurd hopen (h hb hrun)

theorem takeSample_zero_run (s : State) (h : Armed s) : (takeSample false s).run = 0 := by
  rw [takeSample_accepted false s ((samplerMasked_eq_false s).2 h), detect_zero, setRun_run]

theorem takeSample_counted_run (s : State) (h : Armed s) (hrun : s.run < 8) :
    (takeSample true s).run = s.run + 1 := by
  rw [takeSample_accepted true s ((samplerMasked_eq_false s).2 h),
    detect_counted _ (appendBit true s) hrun.ne (by rw [appendBit_run]; omega), setRun_run,
    appendBit_run]

/-- The ninth one is the marker capture followed by the RUN policy (40_sampler.md R104). -/
theorem takeSample_ninth (s : State) (h : Armed s) (hrun : s.run = 8) :
    takeSample true s =
      setRun (if s.params.runRestart then 0 else 9)
        (recordMark (nextIdx s) (appendBit true s)) := by
  rw [takeSample_accepted true s ((samplerMasked_eq_false s).2 h),
    detect_ninth _ (appendBit true s) hrun, appendBit_params]

theorem takeSample_ninth_run (s : State) (h : Armed s) (hrun : s.run = 8) :
    (takeSample true s).run = if s.params.runRestart then 0 else 9 := by
  rw [takeSample_ninth s h hrun, setRun_run]

theorem takeSample_held_run (s : State) (h : Armed s) (hrun : s.run = 9) :
    (takeSample true s).run = 9 := by
  rw [takeSample_accepted true s ((samplerMasked_eq_false s).2 h),
    detect_held _ (appendBit true s) hrun, setRun_run]

/-- The markers after a ninth one with the quota open. -/
theorem takeSample_ninth_open (s : State) (h : Armed s) (hrun : s.run = 8)
    (hopen : s.mcount < s.params.nMark) :
    (takeSample true s).marks = s.marks.setIfInBounds s.mcount (nextIdx s) ∧
      (takeSample true s).mcount = s.mcount + 1 ∧
      (takeSample true s).ready = readyAfterMark s := by
  rw [takeSample_ninth s h hrun, recordMark_open _ (appendBit true s) hopen]
  exact ⟨rfl, rfl, rfl⟩

/-- Settles O5: a ninth one with the quota open writes slot MCOUNT; any other one leaves the
markers. -/
theorem ninthOneRecordsTheMarker : Obligations.NinthOneRecordsTheMarker := by
  intro s _ harmed
  refine ⟨fun hrun hopen => ?_, fun hrun hfull => ?_, fun hrun => ?_⟩
  all_goals refine ⟨takeSample true s, exec_sample_eq_takeSample true s, ?_⟩
  · obtain ⟨hmarks, hmcount, -⟩ := takeSample_ninth_open s harmed hrun hopen
    refine ⟨hmcount, fun i => ?_, takeSample_ninth_run s harmed hrun⟩
    rw [hmarks, Fin.getElem_fin, Vector.getElem_setIfInBounds, nextIdx]
    simp only [eq_comm, Fin.getElem_fin]
  · obtain ⟨hmarks, hmcount, -⟩ := takeSample_keeps_markers true s fun _ _ => hfull.not_lt
    exact ⟨hmcount, hmarks, takeSample_ninth_run s harmed hrun⟩
  · obtain ⟨hmarks, hmcount, -⟩ := takeSample_keeps_markers true s fun _ h8 => by omega
    exact ⟨hmcount, hmarks, takeSample_held_run s harmed hrun⟩

/-- Ones that stay short of the ninth, then a 0: no marker and RUN 0 again, from any RUN. -/
theorem execAll_short_run (n : Nat) (s : State) (harmed : Armed s) (hn : s.run + n < 9) :
    ∃ t, execAll (samples (List.replicate n true ++ [false])) s = .next t ∧
      t.run = 0 ∧ t.marks = s.marks ∧ t.mcount = s.mcount ∧ t.ready = s.ready := by
  induction n generalizing s with
  | zero =>
    exact ⟨takeSample false s, execAll_cons (.sample false) [] s, takeSample_zero_run s harmed,
      takeSample_keeps_markers false s nofun⟩
  | succ n ih =>
    have hrun := takeSample_counted_run s harmed (by omega)
    obtain ⟨hmarks, hmcount, hready⟩ := takeSample_keeps_markers true s fun _ h8 => by omega
    obtain ⟨t, hexec, h⟩ := ih (takeSample true s) (armed_takeSample true s harmed) (by omega)
    rw [hmarks, hmcount, hready] at h
    exact ⟨t, (execAll_cons (.sample true) _ s).trans hexec, h⟩

/-- Settles O4, the short run by induction on the number of ones. -/
theorem shortRunLeavesNoTrace : Obligations.ShortRunLeavesNoTrace :=
  ⟨fun s harmed =>
    ⟨⟨_, exec_sample_eq_takeSample false s, takeSample_zero_run s harmed⟩, fun hrun =>
      ⟨_, exec_sample_eq_takeSample true s, takeSample_counted_run s harmed hrun⟩⟩,
    fun s n harmed hrun hn => execAll_short_run n s harmed (by omega)⟩

theorem readyAfterMark_of_quota (s : State) (h : s.mcount + 1 = s.params.nMark) :
    readyAfterMark s = true := by
  simp [readyAfterMark, h]

/-- With the quota exhausted accepted samples leave the markers and advance WIDX by their number. -/
theorem execAll_samples_of_full (bs : List Bit) (s : State) (harmed : Armed s)
    (hfull : ¬ s.mcount < s.params.nMark) (hwidx : s.widx < s.params.bufCap) :
    ∃ t, execAll (samples bs) s = .next t ∧ t.ready = s.ready ∧ t.mcount = s.mcount ∧
      t.marks = s.marks ∧ t.widx = (s.widx + bs.length) % s.params.bufCap := by
  induction bs generalizing s with
  | nil => exact ⟨s, execAll_nil s, rfl, rfl, rfl, (Nat.mod_eq_of_lt hwidx).symm⟩
  | cons b bs ih =>
    obtain ⟨-, hnext, hparams⟩ := takeSample_of_armed b s harmed
    obtain ⟨hmarks, hmcount, hready⟩ := takeSample_keeps_markers b s fun _ _ => hfull
    have hlt : nextIdx s < s.params.bufCap := Nat.mod_lt _ (Nat.zero_lt_of_lt hwidx)
    obtain ⟨t, hexec, hr, hc, hm, hw⟩ := ih (takeSample b s) (armed_takeSample b s harmed)
      (by rwa [hmcount, hparams]) (by rwa [hnext, hparams])
    refine ⟨t, (execAll_cons (.sample b) _ s).trans hexec, hr.trans hready, hc.trans hmcount,
      hm.trans hmarks, ?_⟩
    rw [hw, hnext, hparams, nextIdx, Nat.mod_add_mod, List.length_cons, Nat.add_right_comm,
      Nat.add_assoc]

/-- Settles O6: READY means the quota is exhausted, and then no sample records a marker. -/
theorem readyAtTheQuotaSuspendsCapture : Obligations.ReadyAtTheQuotaSuspendsCapture := by
  refine ⟨fun s _ harmed hrun hquota => ?_, fun s bs hinv harmed hready => ?_⟩
  · obtain ⟨-, hmcount, hready⟩ := takeSample_ninth_open s harmed hrun (by omega)
    exact ⟨takeSample true s, exec_sample_eq_takeSample true s,
      hready.trans (readyAfterMark_of_quota s hquota), hmcount.trans hquota⟩
  · have hfull : s.mcount = s.params.nMark := hinv.ready_iff.1 hready
    obtain ⟨t, hexec, hr, h⟩ := execAll_samples_of_full bs s harmed hfull.not_lt hinv.widx_lt
    exact ⟨t, hexec, hr.trans hready, h⟩

/-! ## The front end -/

theorem nextCnt_of_edge (d : Nat) (f : FrontEnd) (hcnt : f.cnt = 0) (h : f.s2 ≠ f.prev) :
    f.nextCnt d = d := by
  simp [FrontEnd.nextCnt, FrontEnd.edge, hcnt, h]

theorem nextCnt_of_no_edge (d : Nat) (f : FrontEnd) (hcnt : f.cnt = 0) (h : f.s2 = f.prev) :
    f.nextCnt d = 0 := by
  simp [FrontEnd.nextCnt, FrontEnd.edge, hcnt, h]

theorem nextCnt_of_counting (d : Nat) (f : FrontEnd) (hcnt : f.cnt ≠ 0) :
    f.nextCnt d = f.cnt - 1 :=
  if_neg hcnt

/-- The front end's sample is the first event of a cycle that starts with FE_CNT = 1
(40_sampler.md R113, 60_exceptions.md R206). -/
theorem cycleEvents_head?_of_due (c : Cycle) (s : State) (hrst : c.rst = false)
    (hfe : s.params.fePresent = true) (hcnt : s.fe.cnt = 1) :
    (cycleEvents c s).head? = some (encode (.sample s.fe.s2)) := by
  rw [cycleEvents_run c s hrst, samplePort_frontEnd c s hfe, presents_due s.fe hcnt]
  rfl

/-- In no other cycle does the front end put a word on the sample port. -/
theorem sample_notMem_cycleEvents (c : Cycle) (s : State) (hrst : c.rst = false)
    (hfe : s.params.fePresent = true) (hcnt : s.fe.cnt ≠ 1) (w : BitVec 2) :
    .sample w ∉ cycleEvents c s := by
  rw [cycleEvents_run c s hrst, samplePort_frontEnd c s hfe, presents_none s.fe hcnt]
  cases completionDue s <;> simp

theorem clockTick_fe (c : Cycle) (s : State) (hrst : c.rst = false)
    (hfe : s.params.fePresent = true) :
    (clockTick c s).fe = s.fe.tick s.params.sampleDelay c.rfIn := by
  rw [clockTick_run c s hrst, setEvents_fe, tickRegisters_fe, if_pos hfe]

theorem clockTick_events (c : Cycle) (s : State) (hrst : c.rst = false) :
    (clockTick c s).events = s.events ++ cycleEvents c s := by
  rw [clockTick_run c s hrst, setEvents_events]

/-- Settles O53: the clock edge is one tick of the front end, and the sample it presents is decided
by FE_CNT at the start of the cycle. -/
theorem frontEndCycle : Obligations.FrontEndCycle := by
  intro s c rest hevents hcycles hrst hfe
  refine ⟨clockTick c (setCycles rest s), step_cycle s c rest hevents hcycles, ?_⟩
  rw [clockTick_fe c (setCycles rest s) hrst hfe, clockTick_events c (setCycles rest s) hrst,
    setCycles_events, hevents, List.nil_append]
  exact ⟨rfl, rfl, rfl, nextCnt_of_edge _ s.fe, nextCnt_of_no_edge _ s.fe,
    nextCnt_of_counting _ s.fe, cycleEvents_head?_of_due c (setCycles rest s) hrst hfe,
    sample_notMem_cycleEvents c (setCycles rest s) hrst hfe⟩

end Sys2Proof.Machine
end

section
/-! PROOFS. The host commands: what each leaves behind, which command words are reserved, and which
events clear BUSY, then the obligations O12, O13, O17, O18 and O19 (41_commands.md R120 to R127). -/

namespace Sys2Proof.Machine

/-! ## BUSY at the end of a validation -/

@[simp] theorem publish_busy (s : State) : (publish s).busy = s.busy := by
  cases h : s.pend.outcome
  · rw [publish_accept s h]
  · rw [publish_reject s h]

@[simp] theorem leaveValidation_busy_clear (s : State) : (leaveValidation s).busy = false := by
  cases h : s.busy
  · rw [leaveValidation_free s h, h]
  · rw [leaveValidation_busy s h, frameReset_busy, publish_busy, clearBusy_busy]

@[simp] theorem softReset_busy (s : State) : (softReset s).busy = false := rfl

/-- An event that ends a validation leaves BUSY 0, a host transaction because what it carries is
SOFTRESET (41_commands.md R121). -/
theorem effect_busy_of_endsValidation (i : Instr) (s : State) (hi : endsValidation i = true) :
    (effect i s).busy = false := by
  cases i with
  | vdone => exact leaveValidation_busy_clear s
  | softreset => exact softReset_busy s
  | reset => exact hardReset_busy s
  | wrCmd v =>
    obtain rfl : v = 3#32 := by simpa [endsValidation] using hi
    exact congrArg State.busy (runCommand_softreset s)
  | hostReserved11 a v =>
    obtain ⟨rfl, rfl⟩ : a = 1#4 ∧ v = 3#32 := by simpa [endsValidation] using hi
    exact congrArg State.busy (runCommand_softreset s)
  | sample | rd | wrCtrl | wrRoStatusParam | wrRoTagText | wrRoMarks | nop | validate | discard
  | cmdReserved => cases hi

theorem effect_busy_eq_false_iff (i : Instr) (s : State) (hbusy : s.busy = true) :
    (effect i s).busy = false ↔ endsValidation i = true := by
  refine ⟨fun hclear => ?_, effect_busy_of_endsValidation i s⟩
  by_contra hi
  obtain ⟨c, r, h⟩ := effect_of_busy i s hbusy (Bool.eq_false_iff.2 hi)
  rw [h] at hclear
  exact Bool.false_ne_true (hclear.symm.trans hbusy)

/-- Settles O13: each of the four commands answers its argument while BUSY is 1, and BUSY is cleared
by the events that end a validation and kept by all others. -/
theorem busyIgnoresValidateAndDiscard : Obligations.BusyIgnoresValidateAndDiscard := by
  refine ⟨fun s hbusy => ⟨?_, ?_, ?_, ?_⟩, fun i s t hbusy hexec => ?_⟩
  · exact (exec_eq_next_iff .validate s s).2 (enterValidation_busy s hbusy)
  · exact (exec_eq_next_iff .discard s s).2 (discardFrame_busy s hbusy)
  · exact (exec_eq_next_iff (.wrCmd 1) s s).2 (runCommand_busy 1 s (by decide) hbusy)
  · exact (exec_eq_next_iff (.wrCmd 2) s s).2 (runCommand_busy 2 s (by decide) hbusy)
  · rw [← (exec_eq_next_iff i s t).1 hexec]
    exact effect_busy_eq_false_iff i s hbusy

/-! ## Command words -/

/-- A WR to CMD does what an event does once the command written has that event's effect. -/
theorem exec_wrCmd_agrees {v : Word} {i : Instr} {s : State} (h : runCommand v s = effect i s) :
    ∃ t, exec (.wrCmd v) s = .next t ∧ exec i s = .next t :=
  ⟨effect i s, (exec_eq_next_iff (.wrCmd v) s _).2 h, exec_eq_effect i s⟩

/-- Settles O12: one rule of `runCommand` for each row of the dispatch. -/
theorem commandWordDispatch : Obligations.CommandWordDispatch := by
  intro v s
  refine ⟨?_, fun h3 hbusy => ?_, ?_, ?_, fun _ h1 h2 h3 => ?_⟩
  · rintro rfl
    exact exec_wrCmd_agrees (runCommand_softreset s)
  · exact (exec_eq_next_iff (.wrCmd v) s s).2 (runCommand_busy v s h3 hbusy)
  · rintro hfree rfl
    exact exec_wrCmd_agrees (runCommand_validate s hfree)
  · rintro hfree rfl
    exact exec_wrCmd_agrees (runCommand_discard s hfree)
  · exact (exec_eq_next_iff (.wrCmd v) s s).2 (runCommand_other v s h1 h2 h3)

/-- Every word but 0 to 3 is a reserved command, with the word's own fields (30_encoding.md R75,
R76). -/
theorem decode_command_reserved (w : Word) (h0 : w ≠ 0) (h1 : w ≠ 1) (h2 : w ≠ 2) (h3 : w ≠ 3) :
    decode (.command w) = .ok (.cmdReserved (w.extractLsb' 8 24) (w.extractLsb' 0 8)) := by
  have hne {k : Word} (h : w ≠ k) : w.toNat ≠ k.toNat := fun hk => h (BitVec.eq_of_toNat_eq hk)
  exact congrArg Except.ok ((if_neg (hne h0)).trans
    ((if_neg (hne h1)).trans ((if_neg (hne h2)).trans (if_neg (hne h3)))))

/-- Settles O17: NOP, the reserved commands and the words that carry them have no effect. -/
theorem nopAndReservedWordsChangeNothing : Obligations.NopAndReservedWordsChangeNothing := by
  refine ⟨fun s => ⟨?_, ?_⟩, fun rsv op s _ => ?_, fun w h0 h1 h2 h3 => ?_⟩
  · exact exec_eq_effect .nop s
  · exact (exec_eq_next_iff (.wrCmd 0) s s).2
      (runCommand_other 0 s (by decide) (by decide) (by decide))
  · exact exec_eq_effect (.cmdReserved rsv op) s
  · exact ⟨_, _, decode_command_reserved w h0 h1 h2 h3, fun s =>
      ⟨exec_eq_effect (.cmdReserved _ _) s,
        (exec_eq_next_iff (.wrCmd w) s s).2 (runCommand_other w s h1 h2 h3)⟩⟩

/-! ## DISCARD and SOFTRESET -/

/-- Settles O18: unless BUSY, DISCARD is the frame reset. -/
theorem discardIsAFrameReset : Obligations.DiscardIsAFrameReset := fun s =>
  ⟨fun hfree => (exec_eq_next_iff .discard s _).2 (discardFrame_free s hfree),
    fun hbusy => (exec_eq_next_iff .discard s s).2 (discardFrame_busy s hbusy)⟩

/-- Settles O19: SOFTRESET is BUSY cleared, the frame reset and the results cleared, and what these
three leave in PEND and the countdown is `Pend.cleared` and 0. -/
theorem softresetKeepsBufCtrlAndFrontEnd : Obligations.SoftresetKeepsBufCtrlAndFrontEnd := fun s =>
  ⟨0, Pend.cleared, exec_eq_effect .softreset s⟩

end Sys2Proof.Machine
end

section
/-! PROOFS. The validator's search: which prefix of the candidates it passes over and what it has seen
by then, then the obligations O15 and O16 (42_validator.md R141 to R148). -/

open Sys2Proof.Claim

namespace Sys2Proof.Machine

/-! ## The search over any list of candidates -/

/-- Candidates that fail leave only what was seen of their row checks (42_validator.md R142). -/
theorem tryCandidates_append_of_fail (B : Nat → Bit) (c : Nat) (rpe seen : Bit) (ms rest : List Nat)
    (hfail : ∀ m ∈ ms, passes B c rpe m = false) :
    tryCandidates B c rpe seen (ms ++ rest) =
      tryCandidates B c rpe (seen || ms.any (rowBadAt B)) rest := by
  induction ms generalizing seen with
  | nil => simp
  | cons m ms ih =>
    obtain ⟨hm, hms⟩ := List.forall_mem_cons.1 hfail
    rw [List.cons_append, tryCandidates_skip B c rpe seen m _ hm, ih _ hms, List.any_cons,
      Bool.or_assoc]

/-! ## The candidates of a state -/

theorem State.Inv.mcount_le_five {s : State} (hinv : s.Inv) : s.mcount ≤ 5 := by
  obtain ⟨-, ⟨-, hquota⟩, -⟩ := hinv.params_wf
  exact hinv.mcount_le.trans hquota

theorem candidates_eq_map_range (s : State) (hcount : s.mcount ≤ 5) :
    candidates s = (List.range s.mcount).map (cand s) := by
  refine List.ext_getElem (by simp [candidates, hcount]) fun j hj hj' => ?_
  have hj5 : j < 5 := by
    rw [List.length_map, List.length_range] at hj'
    omega
  simp [candidates, cand, hj5]

/-- The candidates before candidate `i`, then candidate `i`. -/
theorem candidates_split (s : State) (i : Nat) (hcount : s.mcount ≤ 5) (hi : i < s.mcount) :
    ∃ rest, candidates s = (List.range i).map (cand s) ++ cand s i :: rest := by
  obtain ⟨n, hn⟩ := Nat.exists_eq_add_of_lt hi
  rw [candidates_eq_map_range s hcount, hn, Nat.add_assoc, List.range_add, List.map_append,
    List.range_succ_eq_map]
  exact ⟨_, rfl⟩

/-- `passes` is the acceptance rule (42_validator.md R147). -/
theorem passes_iff_accepted (s : State) (m : Nat) :
    passes (at_ s) s.params.colIdx.val s.ctrl.rpe m = true ↔ Accepted s m := by
  have hrow : (!s.ctrl.rpe || !rowBadAt (at_ s) m) = true ↔
      (s.ctrl.rpe = true → ¬ RowMismatch s m) := by
    rw [RowMismatch, ← rowBadAt_iff]
    cases s.ctrl.rpe <;> simp
  rw [passes, Bool.and_eq_true, Bool.and_eq_true, hrow, and_assoc, Bool.not_eq_true',
    Bool.not_eq_true', stopAt, colAt]

/-- None of the first `n` candidates passes when none of them is accepted. -/
theorem passes_eq_false_of_mem (s : State) (n : Nat) (h : ∀ j, j < n → ¬ Accepted s (cand s j)) :
    ∀ m ∈ (List.range n).map (cand s), passes (at_ s) s.params.colIdx.val s.ctrl.rpe m = false := by
  intro m hm
  obtain ⟨j, hj, rfl⟩ := List.mem_map.1 hm
  exact Bool.eq_false_iff.2 fun hpass =>
    h j (List.mem_range.1 hj) ((passes_iff_accepted s _).1 hpass)

/-- Some of the first `n` candidates has a row mismatch. -/
def mismatchAmong (s : State) (n : Nat) : Bit :=
  ((List.range n).map (cand s)).any (rowBadAt (at_ s))

theorem mismatchAmong_iff (s : State) (n : Nat) :
    mismatchAmong s n = true ↔ ∃ j, j < n ∧ RowMismatch s (cand s j) := by
  simp only [mismatchAmong, List.any_map, List.any_eq_true, List.mem_range, Function.comp_apply,
    rowBadAt_iff]

theorem mismatchAmong_succ (s : State) (n : Nat) :
    mismatchAmong s (n + 1) = (mismatchAmong s n || rowBadAt (at_ s) (cand s n)) := by
  simp [mismatchAmong, List.range_succ]

/-- The characters the validator packs are those the candidate spells (42_validator.md R144). -/
theorem spells_charsAt (s : State) (m : Nat) : Spells s m (charsAt (at_ s) m) := fun k =>
  (congrArg BitVec.toNat (charsAt_getElem (at_ s) m k.val k.isLt)).trans (nibbleAt_toNat _ _)

/-! ## The result of a validation -/

/-- The first accepted candidate is the result (42_validator.md R142). -/
theorem validateResult_of_firstAccepted (s : State) (i : Nat) (hcount : s.mcount ≤ 5)
    (h : FirstAccepted s i) :
    validateResult s =
      { outcome := .accept, tag := charsAt (at_ s) (cand s i),
        rowbad := rowBadAt (at_ s) (cand s i), perrSeen := mismatchAmong s (i + 1) } := by
  obtain ⟨hi, hacc, hearlier⟩ := h
  obtain ⟨rest, hsplit⟩ := candidates_split s i hcount hi
  rw [validateResult, hsplit,
    tryCandidates_append_of_fail (hfail := passes_eq_false_of_mem s i hearlier),
    tryCandidates_pass (h := (passes_iff_accepted s _).2 hacc), Bool.false_or,
    mismatchAmong_succ, mismatchAmong]

/-- With every candidate passed over the search ends in REJECT (42_validator.md R148). -/
theorem validateResult_of_noneAccepted (s : State) (hcount : s.mcount ≤ 5) (h : NoneAccepted s) :
    validateResult s =
      { outcome := .reject, tag := Vector.replicate 10 0, rowbad := false,
        perrSeen := mismatchAmong s s.mcount } := by
  rw [validateResult, candidates_eq_map_range s hcount, ← List.append_nil (List.map _ _),
    tryCandidates_append_of_fail (hfail := passes_eq_false_of_mem s s.mcount h), tryCandidates_nil,
    Bool.false_or, mismatchAmong]

theorem exec_validate_of_free (s : State) (hfree : s.busy = false) :
    ∃ t, exec .validate s = .next t ∧ t.pend = validateResult s :=
  ⟨_, (exec_eq_next_iff .validate s _).2 (enterValidation_free s hfree), rfl⟩

/-- Settles O15: the search passes over the candidates before the first accepted one, and what it
packs, checks and has seen by then is what the spec says of the buffer's bits. -/
theorem firstAcceptedCandidateIsPending : Obligations.FirstAcceptedCandidateIsPending := by
  intro s i hinv hfree hfirst
  obtain ⟨t, hexec, hpend⟩ := exec_validate_of_free s hfree
  rw [validateResult_of_firstAccepted s i hinv.mcount_le_five hfirst] at hpend
  refine ⟨t, hexec, ?_⟩
  rw [hpend]
  refine ⟨rfl, spells_charsAt s _, rowBadAt_iff _ _, (mismatchAmong_iff s (i + 1)).trans ?_⟩
  simp only [Nat.lt_succ_iff]

/-- Settles O16: the search passes over every candidate, and has then seen all their row checks. -/
theorem exhaustionIsReject : Obligations.ExhaustionIsReject := by
  intro s hinv hfree hnone
  obtain ⟨t, hexec, hpend⟩ := exec_validate_of_free s hfree
  rw [validateResult_of_noneAccepted s hinv.mcount_le_five hnone] at hpend
  refine ⟨t, hexec, ?_⟩
  rw [hpend]
  exact ⟨rfl, rfl, rfl, mismatchAmong_iff s s.mcount⟩

end Sys2Proof.Machine
end

section
/-! PROOFS. Host register access: which row of the table a write to a read-only word is and what the
reserved transaction decodes to, then the obligations O27, O35 and O36 (43_host_access.md R170, R174,
R175). -/

namespace Sys2Proof.Machine

/-- Settles O27: what RD does is return RegRead's value, and that writes the port's data alone. -/
theorem readReturnsTheRegisterOnly : Obligations.ReadReturnsTheRegisterOnly := fun a s =>
  exec_eq_effect (.rd a) s

/-! ## Writes to the read-only words -/

/-- The words 2 to 15 are the three rows of WR_RO: 2 and 3, 4 to 7, 8 to 15. -/
theorem decodeWrite_mnemonic_readOnly (a : RegAddr) (v : Word) (ha : 2 ≤ a.toNat) :
    (decodeWrite a v).mnemonic = "WR_RO" := by
  rw [decodeWrite, if_neg (by omega), if_neg (by omega)]
  split_ifs
  · rfl
  · rfl
  · rfl

/-- Settles O35: a WR_RO has no effect, and a write to a word from 2 on is one. -/
theorem writesToReadOnlyWordsAreIgnored : Obligations.WritesToReadOnlyWordsAreIgnored := by
  refine ⟨fun s v => ⟨fun a => ?_, fun a => ?_, fun a => ?_⟩, fun a v ha => ?_⟩
  · exact exec_eq_effect (.wrRoStatusParam a v) s
  · exact exec_eq_effect (.wrRoTagText a v) s
  · exact exec_eq_effect (.wrRoMarks a v) s
  · have hdecode := decode_hostWord_write a v
    exact ⟨decodeWrite a v, hdecode, decodeWrite_mnemonic_readOnly a v ha,
      fun s => exec_of_decode_write_ignored s ha hdecode⟩

/-! ## The reserved transaction -/

/-- The transaction `{we, re} = 11` keeps its address and data (30_encoding.md R72). -/
theorem decode_hostWord_reserved (a : RegAddr) (v : Word) :
    decode (.host (hostWord true true a v)) = .ok (.hostReserved11 a v) := by
  obtain ⟨hwe, hre, haddr, hdata⟩ := hostWord_fields true true a v
  simp only [decode, decodeHost, hwe, hre, haddr, hdata]

/-- Settles O36: the WR of the same address and data leaves `regWrite a v s`, and the reserved
transaction returns 0 from there. -/
theorem reservedTransactionWritesAndReturnsZero :
    Obligations.ReservedTransactionWritesAndReturnsZero := fun a v s =>
  ⟨decode_hostWord_reserved a v, decodeWrite a v, regWrite a v s, decode_hostWord_write a v,
    (exec_eq_next_iff (decodeWrite a v) s _).2 (effect_decodeWrite a v s),
    exec_eq_effect (.hostReserved11 a v) s⟩

end Sys2Proof.Machine
end

section
/-! PROOFS. The block has no fault state: what one word and one step answer, the induction over the
length of a run, then the obligation O44 (60_exceptions.md R200). -/

namespace Sys2Proof.Machine

/-! ## One word, one step -/

/-- A port word answers a next state, be it an event or none (30_encoding.md R71 to R73). -/
theorem runWord_answers_next (w : PortWord) (s : State) : ∃ t, runWord w s = .next t := by
  cases h : decode w with
  | ok i => exact ⟨effect i s, (runWord_event w i s h).trans (exec_eq_effect i s)⟩
  | error e => exact ⟨s, runWord_noEvent w e s h⟩

/-- A step answers a next state: with a word pending, with only a cycle pending, with nothing
presented. -/
theorem step_answers_next (s : State) : ∃ t, step s = .next t := by
  cases hevents : s.events with
  | cons w rest =>
    rw [step_event s w rest hevents]
    exact runWord_answers_next w (setEvents rest s)
  | nil =>
    cases hcycles : s.cycles with
    | cons c rest => exact ⟨clockTick c (setCycles rest s), step_cycle s c rest hevents hcycles⟩
    | nil => exact ⟨s, step_nothing s hevents hcycles⟩

/-! ## Runs -/

/-- A run one step longer is the step, then the run from the state it leaves. -/
theorem run_succ_of_step {s t : State} (n : Nat) (h : step s = .next t) :
    Sys2Proof.core.run (n + 1) s = Sys2Proof.core.run n t := by
  have hcore : Sys2Proof.core.step s = .next t := h
  simp only [Host.Core.run, hcore]

theorem safeRun_all (n : Nat) (s : State) : SafeRun n s := by
  induction n generalizing s with
  | zero => exact ⟨s, rfl⟩
  | succ n ih =>
    obtain ⟨t, hstep⟩ := step_answers_next s
    obtain ⟨u, hrun⟩ := ih t
    exact ⟨u, (run_succ_of_step n hstep).trans hrun⟩

/-- Settles O44: an event answers its `effect`, and a run is safe because every step answers. -/
theorem noEventFaults : Obligations.NoEventFaults :=
  ⟨fun i s => ⟨effect i s, exec_eq_effect i s⟩, safeRun_all⟩

end Sys2Proof.Machine
end

section
/-! PROOFS. The reset input: what the sampler finds after RESET, what CTRL then reads and what a whole
cycle with RESET does, then the obligations O37 and O38 (70_reset_and_hazards.md R220, R222). -/

open Sys2Proof.Claim

namespace Sys2Proof.Machine

/-! ## RESET once more, and the sampler after it -/

/-- RESET takes nothing it writes from what it overwrites (70_reset_and_hazards.md R222). -/
theorem hardReset_hardReset (s : State) : hardReset (hardReset s) = hardReset s := rfl

theorem controlState_hardReset (s : State) : controlState (hardReset s) = .idle := rfl

theorem armed_hardReset (s : State) : Armed (hardReset s) :=
  ⟨hardReset_busy s, by rw [hardReset_ctrl]⟩

/-- The first sample after RESET goes to index 0 of the buffer RESET kept. -/
theorem at_takeSample_hardReset (b : Bit) (s : State) (x : Nat) :
    at_ (takeSample b (hardReset s)) x = bufRead (s.buf.set 0 b) s.params.bufCap x :=
  at_takeSample_of_armed b (hardReset s) (armed_hardReset s) x

theorem State.Inv.bufCap_pos {s : State} (hinv : s.Inv) : 0 < s.params.bufCap :=
  (Nat.zero_le s.widx).trans_lt hinv.widx_lt

/-- Settles O38: a second RESET finds nothing to do, and the sampler it leaves is armed at index 0. -/
theorem oneResetIsComplete : Obligations.OneResetIsComplete := by
  intro s t hexec
  obtain rfl : hardReset s = t := (exec_eq_next_iff .reset s t).1 hexec
  have hidle : stateNo (hardReset s) = 0 := by
    rw [stateNo, regRead_status, statusWord_state, controlState_hardReset]
    rfl
  obtain ⟨hbusy, hen⟩ := armed_hardReset s
  refine ⟨(exec_eq_next_iff .reset _ _).2 (hardReset_hardReset s), hidle, hen, hbusy,
    fun hinv b => ⟨_, exec_sample_eq_takeSample b _, ?_, fun x hx => ?_⟩⟩
  · rw [at_takeSample_hardReset,
      bufRead_set_same _ _ 0 b hinv.bufCap_pos ((Memory.wf_iff s).1 hinv.buf_wf)]
  · rw [at_takeSample_hardReset, bufRead_set_other _ _ 0 x b hx]

/-! ## CTRL after RESET, and the cycle of RESET -/

/-- CTRL with the sampler enabled: bit 0 is EN, bit 1 RPE (43_host_access.md R171). -/
theorem ctrlWord_enabled (rpe : Bit) :
    ctrlWord ⟨true, rpe⟩ = 1#32 ||| (BitVec.ofBool rpe).setWidth 32 <<< 1 := by
  revert rpe; decide

/-- A cycle with `rst = 1` is the event RESET and no other (60_exceptions.md R206). -/
theorem runCycle_reset (c : Cycle) (s : State) (hrst : c.rst = true) (hevents : s.events = []) :
    runCycle c s = exec .reset s := by
  have hedge : setEvents [] (clockTick c s) = s := by
    rw [clockTick_reset c s hrst]
    exact congrArg (setEvents · s) hevents.symm
  rw [runCycle_eq_execAll, cycleEvents_reset c s hrst, hedge, exec_eq_effect]
  exact execAll_cons .reset [] s

/-- Settles O37: what RESET leaves in PEND and the countdown is `Pend.cleared` and 0. -/
theorem resetSetsEveryElementButBuf : Obligations.ResetSetsEveryElementButBuf := by
  refine fun s => ⟨0, Pend.cleared, hardReset s, exec_reset_eq_hardReset s, rfl,
    statusWord_hardReset s, ?_, fun c hrst hevents => ?_⟩
  · rw [regRead_ctrl, hardReset_ctrl, ctrlWord_enabled]
  · rw [runCycle_reset c s hrst hevents, exec_reset_eq_hardReset]

end Sys2Proof.Machine
end

section
/-! PROOFS. The encoder and the decoder: what each port's word decodes to and what each decoded
instruction encodes to, the table's rows and the word PARAM, then the obligations O29 and O39 to O42
(30_encoding.md R71 to R77, R83). -/

namespace Sys2Proof.Machine

/-! ## Decode of encode -/

theorem decode_encode_sample (b : Bit) : decode (encode (.sample b)) = .ok (.sample b) := by
  cases b <;> rfl

theorem decode_hostWord_read (a : RegAddr) (v : Word) :
    decode (.host (hostWord false true a v)) = .ok (.rd a) := by
  obtain ⟨hwe, hre, haddr, -⟩ := hostWord_fields false true a v
  simp only [decode, decodeHost, hwe, hre, haddr]

theorem decodeWrite_statusParam (a : BitVec 1) (v : Word) :
    decodeWrite (0b001#3 ++ a) v = .wrRoStatusParam a v := by
  have haddr : (0b001#3 ++ a : RegAddr).toNat = 2 + a.toNat := append_toNat 0b001#3 a
  have ha := a.isLt
  rw [decodeWrite, if_neg (by omega), if_neg (by omega), if_pos (by omega),
    BitVec.extractLsb'_append_eq_right]

theorem decodeWrite_tagText (a : BitVec 2) (v : Word) :
    decodeWrite (0b01#2 ++ a) v = .wrRoTagText a v := by
  have haddr : (0b01#2 ++ a : RegAddr).toNat = 4 + a.toNat := append_toNat 0b01#2 a
  have ha := a.isLt
  rw [decodeWrite, if_neg (by omega), if_neg (by omega), if_neg (by omega), if_pos (by omega),
    BitVec.extractLsb'_append_eq_right]

theorem decodeWrite_marks (a : BitVec 3) (v : Word) :
    decodeWrite (0b1#1 ++ a) v = .wrRoMarks a v := by
  have haddr : (0b1#1 ++ a : RegAddr).toNat = 8 + a.toNat := append_toNat 0b1#1 a
  have ha := a.isLt
  rw [decodeWrite, if_neg (by omega), if_neg (by omega), if_neg (by omega), if_neg (by omega),
    BitVec.extractLsb'_append_eq_right]

/-- A reserved command is well formed exactly when its word is none of the four command words
(30_encoding.md R76). -/
theorem cmdReserved_wf_iff (rsv : BitVec 24) (op : BitVec 8) :
    (Instr.cmdReserved rsv op).wf = true ↔ 4 ≤ (rsv ++ op : Word).toNat := by
  have hword : (rsv ++ op : Word).toNat = rsv.toNat * 256 + op.toNat := append_toNat rsv op
  have hrsv : rsv = 0 ↔ rsv.toNat = 0 := BitVec.toNat_inj.symm
  simp only [Instr.wf, Bool.not_eq_true', Bool.and_eq_false_iff, beq_eq_false_iff_ne,
    decide_eq_false_iff_not, ne_eq, hrsv]
  omega

theorem decodeCommand_reserved (w : Word) (h : 4 ≤ w.toNat) :
    decodeCommand w = .cmdReserved (w.extractLsb' 8 24) (w.extractLsb' 0 8) := by
  rw [decodeCommand, if_neg (by omega), if_neg (by omega), if_neg (by omega), if_neg (by omega)]

theorem decode_encode_cmdReserved (rsv : BitVec 24) (op : BitVec 8)
    (hwf : (Instr.cmdReserved rsv op).wf = true) :
    decode (encode (.cmdReserved rsv op)) = .ok (.cmdReserved rsv op) := by
  have hword := decodeCommand_reserved (rsv ++ op) ((cmdReserved_wf_iff rsv op).1 hwf)
  rw [BitVec.extractLsb'_append_eq_left, BitVec.extractLsb'_append_eq_right] at hword
  exact congrArg Except.ok hword

/-- Settles O39, constructor by constructor: a write is decoded by its address, and only a
well-formed reserved command keeps clear of the four command words. -/
theorem decodeOfEncodeIsTheInstruction : Obligations.DecodeOfEncodeIsTheInstruction := by
  intro i hwf
  cases i with
  | sample b => exact decode_encode_sample b
  | rd a => exact decode_hostWord_read a 0
  | wrCtrl v => exact decode_hostWord_write 0 v
  | wrCmd v => exact decode_hostWord_write 1 v
  | wrRoStatusParam a v =>
    exact (decode_hostWord_write _ v).trans (congrArg _ (decodeWrite_statusParam a v))
  | wrRoTagText a v =>
    exact (decode_hostWord_write _ v).trans (congrArg _ (decodeWrite_tagText a v))
  | wrRoMarks a v =>
    exact (decode_hostWord_write _ v).trans (congrArg _ (decodeWrite_marks a v))
  | hostReserved11 a v => exact decode_hostWord_reserved a v
  | cmdReserved rsv op => exact decode_encode_cmdReserved rsv op hwf
  | nop | validate | discard | softreset | vdone | reset => rfl

/-! ## Encode of decode -/

theorem ofBool_getLsbD {n : Nat} (w : BitVec n) (i : Nat) :
    BitVec.ofBool (w.getLsbD i) = w.extractLsb' i 1 := by
  refine BitVec.eq_of_getLsbD_eq fun j hj => ?_
  obtain rfl : j = 0 := by omega
  simp

/-- A format H word is made of its four fields (30_encoding.md R72). -/
theorem hostWord_of_fields (w : HostWord) :
    hostWord (w.getLsbD 37) (w.getLsbD 36) (w.extractLsb' 32 4) (w.extractLsb' 0 32) = w := by
  have h6 : 37 = 36 + 1 := rfl
  have h2 : 36 = 32 + 4 := rfl
  have h0 : 32 = 0 + 32 := rfl
  rw [hostWord, ofBool_getLsbD, ofBool_getLsbD,
    BitVec.extractLsb'_append_extractLsb'_eq_extractLsb' h6,
    BitVec.extractLsb'_append_extractLsb'_eq_extractLsb' h2,
    BitVec.extractLsb'_append_extractLsb'_eq_extractLsb' h0, BitVec.extractLsb'_eq_self]

theorem encode_decodeWrite (a : RegAddr) (v : Word) :
    encode (decodeWrite a v) = .host (hostWord true false a v) := by
  have hstatus : 2 ≤ a.toNat → a.toNat < 4 → 0b001#3 ++ a.extractLsb' 0 1 = a := by
    revert a; decide
  have htag : 4 ≤ a.toNat → a.toNat < 8 → 0b01#2 ++ a.extractLsb' 0 2 = a := by
    revert a; decide
  have hmarks : 8 ≤ a.toNat → 0b1#1 ++ a.extractLsb' 0 3 = a := by
    revert a; decide
  unfold decodeWrite
  split_ifs with h0 h1 h4 h8
  · obtain rfl : a = 0 := BitVec.eq_of_toNat_eq h0
    rfl
  · obtain rfl : a = 1 := BitVec.eq_of_toNat_eq h1
    rfl
  · rw [encode, hstatus (by omega) h4]
  · rw [encode, htag (by omega) h8]
  · rw [encode, hmarks (by omega)]

theorem decodeWrite_wf (a : RegAddr) (v : Word) : (decodeWrite a v).wf = true := by
  unfold decodeWrite
  split_ifs <;> rfl

theorem decodeWrite_ne_rd (a b : RegAddr) (v : Word) : decodeWrite a v ≠ .rd b := by
  unfold decodeWrite
  split_ifs <;> nofun

theorem append_command_fields (w : Word) :
    (w.extractLsb' 8 24 ++ w.extractLsb' 0 8 : Word) = w :=
  (BitVec.extractLsb'_append_extractLsb'_eq_extractLsb' rfl).trans BitVec.extractLsb'_eq_self

/-- A command word is one of the four, or reserved (30_encoding.md R75, R76). -/
theorem command_word_cases (w : Word) : w = 0 ∨ w = 1 ∨ w = 2 ∨ w = 3 ∨ 4 ≤ w.toNat := by
  bv_omega

theorem encode_decodeCommand (w : Word) :
    (decodeCommand w).wf = true ∧ encode (decodeCommand w) = .command w := by
  obtain rfl | rfl | rfl | rfl | h := command_word_cases w
  · exact ⟨rfl, rfl⟩
  · exact ⟨rfl, rfl⟩
  · exact ⟨rfl, rfl⟩
  · exact ⟨rfl, rfl⟩
  · rw [decodeCommand_reserved w h, cmdReserved_wf_iff, encode, append_command_fields]
    exact ⟨h, rfl⟩

theorem decodeCommand_ne_rd (w : Word) (a : RegAddr) : decodeCommand w ≠ .rd a := by
  unfold decodeCommand
  split_ifs <;> nofun

/-- A decoded sample keeps the word's bit, and its other bit is `smp_valid` (30_encoding.md R71). -/
theorem decode_sample_eq_ok {w : BitVec 2} {i : Instr} (h : decode (.sample w) = .ok i) :
    ∃ b, i = .sample b ∧ encode (.sample b) = .sample w := by
  have hvalid : ∀ w : BitVec 2, w.getLsbD 1 = true → 1#1 ++ BitVec.ofBool (w.getLsbD 0) = w := by
    decide
  simp only [decode, decodeSample] at h
  split_ifs at h with hv
  exact ⟨_, (Except.ok.inj h).symm, congrArg PortWord.sample (hvalid w hv)⟩

/-- The host transaction of the fields `we`, `re`, `addr` and `wdata` (30_encoding.md R72). -/
theorem decode_hostWord_eq_ok {we re : Bit} {a : RegAddr} {v : Word} {i : Instr}
    (h : decode (.host (hostWord we re a v)) = .ok i) :
    (we = false ∧ re = true ∧ i = .rd a) ∨ (we = true ∧ re = false ∧ i = decodeWrite a v) ∨
      (we = true ∧ re = true ∧ i = .hostReserved11 a v) := by
  cases we <;> cases re
  · obtain ⟨hwe, hre, -⟩ := hostWord_fields false false a v
    simp only [decode, decodeHost, hwe, hre] at h
    nomatch h
  · exact .inl ⟨rfl, rfl, (Except.ok.inj ((decode_hostWord_read a v).symm.trans h)).symm⟩
  · exact .inr (.inl ⟨rfl, rfl, (Except.ok.inj ((decode_hostWord_write a v).symm.trans h)).symm⟩)
  · exact .inr (.inr ⟨rfl, rfl, (Except.ok.inj ((decode_hostWord_reserved a v).symm.trans h)).symm⟩)

/-- Settles O40, port by port: no field of a word but the `wdata` of a read is lost. -/
theorem encodeOfDecodeIsTheWord : Obligations.EncodeOfDecodeIsTheWord := by
  intro w i h
  cases w with
  | sample w =>
    obtain ⟨b, rfl, hw⟩ := decode_sample_eq_ok h
    exact ⟨rfl, fun _ => hw, nofun⟩
  | host w =>
    rw [← hostWord_of_fields w] at h ⊢
    obtain ⟨hwe, hre, rfl⟩ | ⟨hwe, hre, rfl⟩ | ⟨hwe, hre, rfl⟩ := decode_hostWord_eq_ok h
    · rw [hwe, hre]
      refine ⟨rfl, fun hrd => absurd rfl (hrd _), fun a ha => ?_⟩
      obtain rfl := Instr.rd.inj ha
      exact ⟨_, rfl⟩
    · rw [hwe, hre]
      exact ⟨decodeWrite_wf _ _, fun _ => encode_decodeWrite _ _,
        fun a ha => absurd ha (decodeWrite_ne_rd _ a _)⟩
    · rw [hwe, hre]
      exact ⟨rfl, fun _ => rfl, nofun⟩
  | command w =>
    obtain rfl := Except.ok.inj h
    obtain ⟨hwf, hword⟩ := encode_decodeCommand w
    exact ⟨hwf, fun _ => hword, fun a ha => absurd ha (decodeCommand_ne_rd w a)⟩
  | vdone =>
    obtain rfl := Except.ok.inj h
    exact ⟨rfl, fun _ => rfl, nofun⟩
  | reset w =>
    have hactive : ∀ w : BitVec 1, w.getLsbD 0 = true → w = 1 := by decide
    simp only [decode] at h
    split_ifs at h with hrst
    obtain rfl := Except.ok.inj h
    exact ⟨rfl, fun _ => congrArg PortWord.reset (hactive w hrst).symm, nofun⟩

/-! ## The table's rows -/

/-- The rows of format H look only at `we`, `re` and `addr` (30_encoding.md R72). -/
theorem hostWord_and_row (we re : Bit) (a : RegAddr) (v : Word) (r : HostWord × HostWord × String)
    (hr : r ∈ hostRows) : hostWord we re a v &&& r.1 = hostWord we re a 0 &&& r.1 := by
  have hmask : ∀ r ∈ hostRows, r.1 = r.1.extractLsb' 32 6 ++ 0#32 := by decide
  rw [hmask r hr, hostWord, hostWord, BitVec.and_append, BitVec.and_append, BitVec.and_zero,
    BitVec.and_zero]

/-- Nor does the mnemonic of a write depend on its data. -/
theorem decodeWrite_mnemonic (a : RegAddr) (v : Word) :
    (decodeWrite a v).mnemonic = (decodeWrite a 0).mnemonic := by
  unfold decodeWrite
  split_ifs <;> rfl

/-- Every transaction decodes to an instruction whose mnemonic its `we`, `re` and `addr` decide. -/
theorem decode_hostWord_mnemonic (we re : Bit) (a : RegAddr) (v : Word)
    (h : we = true ∨ re = true) :
    ∃ i, decode (.host (hostWord we re a v)) = .ok i ∧
      (eventOf (.host (hostWord we re a 0))).map Instr.mnemonic = some i.mnemonic := by
  cases we <;> cases re
  · simp at h
  · exact ⟨_, decode_hostWord_read a v, by rw [eventOf, decode_hostWord_read]; rfl⟩
  · refine ⟨_, decode_hostWord_write a v, ?_⟩
    rw [eventOf, decode_hostWord_write, decodeWrite_mnemonic a v]
    rfl
  · exact ⟨_, decode_hostWord_reserved a v, by rw [eventOf, decode_hostWord_reserved]; rfl⟩

/-- The 48 values of `we`, `re` and `addr` that are a transaction, each with its one row. -/
theorem hostRow_of_fields : ∀ (we re : Bit) (a : RegAddr), we = true ∨ re = true →
    ∃ r ∈ hostRows, hostWord we re a 0 &&& r.1 = r.2.1 ∧
      (∀ r' ∈ hostRows, hostWord we re a 0 &&& r'.1 = r'.2.1 → r' = r) ∧
      (eventOf (.host (hostWord we re a 0))).map Instr.mnemonic = some r.2.2 := by
  decide

theorem hostRow_of_transaction (we re : Bit) (a : RegAddr) (v : Word)
    (h : we = true ∨ re = true) :
    ∃ r ∈ hostRows, hostWord we re a v &&& r.1 = r.2.1 ∧
      (∀ r' ∈ hostRows, hostWord we re a v &&& r'.1 = r'.2.1 → r' = r) ∧
      ∃ i, decode (.host (hostWord we re a v)) = .ok i ∧ i.mnemonic = r.2.2 := by
  obtain ⟨r, hr, hrow, honly, hname⟩ := hostRow_of_fields we re a h
  obtain ⟨i, hi, hmnemonic⟩ := decode_hostWord_mnemonic we re a v h
  refine ⟨r, hr, (hostWord_and_row we re a v r hr).trans hrow, fun r' hr' hrow' => ?_, i, hi, ?_⟩
  · exact honly r' hr' ((hostWord_and_row we re a v r' hr').symm.trans hrow')
  · exact Option.some.inj (hmnemonic.symm.trans hname)

theorem commandRow_of_word (w : Word) :
    (commandRows.find? fun r => w &&& r.1 == r.2.1).map (fun r => r.2.2) =
      some (decodeCommand w).mnemonic := by
  obtain rfl | rfl | rfl | rfl | h := command_word_cases w
  · decide
  · decide
  · decide
  · decide
  · have hne (k : Word) (hk : k.toNat < 4) : (w &&& 0xFFFFFFFF == k) = false := by
      have hw : w &&& 0xFFFFFFFF = w := BitVec.and_allOnes
      rw [hw, beq_eq_false_iff_ne]
      rintro rfl
      omega
    rw [decodeCommand_reserved w h]
    simp only [commandRows, List.find?_cons, hne 0 (by decide), hne 1 (by decide),
      hne 2 (by decide), hne 3 (by decide)]
    simp [Instr.mnemonic]

/-- Settles O42: the six bits above the data choose the row of a transaction, and the first four
rows of format C are the four command words. -/
theorem opcodeTableRowsDecode : Obligations.OpcodeTableRowsDecode := by
  refine ⟨fun w h => ?_, fun w => ⟨_, rfl, commandRow_of_word w⟩⟩
  have hrow := hostRow_of_transaction (w.getLsbD 37) (w.getLsbD 36) (w.extractLsb' 32 4)
    (w.extractLsb' 0 32) h
  rwa [hostWord_of_fields] at hrow

/-- Settles O41: closed words, each decoded. -/
theorem wordsOfTheSpecDecode : Obligations.WordsOfTheSpecDecode := by
  unfold Obligations.WordsOfTheSpecDecode
  decide

/-! ## PARAM -/

/-- In range, every field of PARAM holds its parameter whole (30_encoding.md R83). -/
theorem paramWord_toNat (p : Params) (hwf : p.wf) :
    (paramWord p).toNat =
      p.runRestart.toNat * 2 ^ 22 + p.colIdx.val * 2 ^ 20 + p.nMark * 2 ^ 17 + p.bufCap := by
  obtain ⟨⟨-, hcap⟩, ⟨-, hquota⟩, -⟩ := hwf
  have hcol := p.colIdx.isLt
  rw [paramWord, BitVec.toNat_setWidth_of_le (by decide)]
  simp only [append_toNat, BitVec.toNat_ofBool, BitVec.toNat_ofNat]
  rw [Nat.mod_eq_of_lt (by omega), Nat.mod_eq_of_lt (by omega), Nat.mod_eq_of_lt (by omega)]
  ring

/-- Settles O29: each parameter in range fits its field; the defaults give the word as it stands. -/
theorem paramReadsTheParameters : Obligations.ParamReadsTheParameters :=
  ⟨fun s hwf => paramWord_toNat s.params hwf, rfl⟩

end Sys2Proof.Machine
end

section
/-! PROOFS. Everything an event can do, said once: the changes it can make and when each happens,
and what none of them touches, then the obligations O14, O20, O26, O34, O43, O45 and O48 to O50
(10_state.md section 3, 20_memory.md section 5, 41_commands.md R122, 42_validator.md R149,
43_host_access.md R173). -/

open Sys2Proof.Claim

namespace Sys2Proof.Machine

/-! ## The changes an event makes -/

/-- The change event `i` makes to `s`, but for the port's read data: the operation that makes it,
and what `i` and `s` must be for it. -/
inductive EventChange (i : Instr) (s : State) : State → Prop
  | nothing : EventChange i s s
  | sample (b : Bit) (hi : i = .sample b) (harmed : Armed s) : EventChange i s (takeSample b s)
  | ctrl (v : Word) (hi : (∃ v, i = .wrCtrl v) ∨ ∃ v, i = .hostReserved11 0 v) :
    EventChange i s (writeCtrl v s)
  | enter (hfree : s.busy = false) : EventChange i s (enterValidation s)
  | discard (hfree : s.busy = false) : EventChange i s (frameReset s)
  | leave (hi : i = .vdone) (hbusy : s.busy = true) :
    EventChange i s (frameReset (publish (clearBusy s)))
  | softReset (hne : i ≠ .vdone) (hi : endsValidation i = true) : EventChange i s (softReset s)
  | hardReset (hi : i = .reset) : EventChange i s (hardReset s)

/-- A command word makes the change of the command it is (41_commands.md R120). -/
theorem runCommand_change (i : Instr) (v : Word) (s : State) (hne : i ≠ .vdone)
    (hi : v = 3#32 → endsValidation i = true) : EventChange i s (runCommand v s) := by
  obtain h | ⟨hv, h⟩ | ⟨-, hfree, h⟩ | ⟨-, hfree, h⟩ := runCommand_cases v s <;> rw [h]
  · exact .nothing
  · exact .softReset hne (hi hv)
  · exact .enter hfree
  · exact .discard hfree

theorem regWrite_change (a : RegAddr) (v : Word) (s : State) :
    EventChange (.hostReserved11 a v) s (regWrite a v s) := by
  obtain h | ⟨rfl, h⟩ | ⟨rfl, h⟩ := regWrite_cases a v s <;> rw [h]
  · exact .nothing
  · exact .ctrl v (.inr ⟨v, rfl⟩)
  · exact runCommand_change _ v s nofun fun hv => by rw [hv]; rfl

/-- Every event makes one of the changes, and may return data. -/
theorem effect_change (i : Instr) (s : State) :
    ∃ t r, EventChange i s t ∧ effect i s = { t with rdata := r } := by
  cases i with
  | sample b =>
    obtain h | ⟨hbusy, hen, -⟩ := takeSample_cases b s
    · exact ⟨s, s.rdata, .nothing, h⟩
    · exact ⟨_, _, .sample b rfl ⟨hbusy, hen⟩, rfl⟩
  | rd a => exact ⟨s, some (regRead a s), .nothing, rfl⟩
  | wrCtrl v => exact ⟨_, _, .ctrl v (.inl ⟨v, rfl⟩), rfl⟩
  | wrCmd v =>
    exact ⟨_, _, runCommand_change _ v s nofun fun hv => by rw [hv]; rfl, rfl⟩
  | hostReserved11 a v => exact ⟨_, some 0, regWrite_change a v s, rfl⟩
  | validate =>
    cases hbusy : s.busy
    · exact ⟨_, _, .enter hbusy, rfl⟩
    · exact ⟨s, s.rdata, .nothing, enterValidation_busy s hbusy⟩
  | discard =>
    cases hbusy : s.busy
    · exact ⟨_, _, .discard hbusy, discardFrame_free s hbusy⟩
    · exact ⟨s, s.rdata, .nothing, discardFrame_busy s hbusy⟩
  | softreset => exact ⟨_, _, .softReset nofun rfl, rfl⟩
  | vdone =>
    cases hbusy : s.busy
    · exact ⟨s, s.rdata, .nothing, leaveValidation_free s hbusy⟩
    · exact ⟨_, _, .leave rfl hbusy, leaveValidation_busy s hbusy⟩
  | reset => exact ⟨_, _, .hardReset rfl, rfl⟩
  | wrRoStatusParam | wrRoTagText | wrRoMarks | nop | cmdReserved =>
    exact ⟨s, s.rdata, .nothing, rfl⟩

/-- The same of an event that answers `t`. -/
theorem exec_change {i : Instr} {s t : State} (h : exec i s = .next t) :
    ∃ u r, EventChange i s u ∧ t = { u with rdata := r } := by
  rw [← (exec_eq_next_iff i s t).1 h]
  exact effect_change i s

/-! ## What no change touches -/

theorem publish_cases (s : State) :
    (s.pend.outcome = .accept ∧ publish s =
      { s with tag := s.pend.tag, aperr := s.pend.rowbad, perr := false, outcome := .accept }) ∨
    (s.pend.outcome = .reject ∧
      publish s = { s with outcome := .reject, perr := s.perr || s.pend.perrSeen }) := by
  cases h : s.pend.outcome
  · exact .inl ⟨rfl, publish_accept s h⟩
  · exact .inr ⟨rfl, publish_reject s h⟩

/-- Entering a validation writes BUSY, PEND and the countdown. -/
theorem enterValidation_fields (s : State) :
    ∃ p b n, enterValidation s = { s with pend := p, busy := b, vcnt := n } := by
  cases h : s.busy
  · exact ⟨_, _, _, enterValidation_free s h⟩
  · exact ⟨s.pend, s.busy, s.vcnt, enterValidation_busy s h⟩

/-- Applying the result writes TAG, APERR, PERR and OUTCOME. -/
theorem publish_fields (s : State) :
    ∃ g a p o, publish s = { s with tag := g, aperr := a, perr := p, outcome := o } := by
  obtain ⟨-, h⟩ | ⟨-, h⟩ := publish_cases s
  · exact ⟨_, _, _, _, h⟩
  · exact ⟨s.tag, s.aperr, _, _, h⟩

theorem EventChange.sameSchedule {i : Instr} {s t : State} (h : EventChange i s t) :
    s.SameSchedule t := by
  cases h with
  | sample b =>
    obtain ⟨bu, w, d, m, c, r, y, h⟩ := takeSample_fields b s
    rw [h]; exact ⟨rfl, rfl, rfl⟩
  | enter =>
    obtain ⟨p, b, n, h⟩ := enterValidation_fields s
    rw [h]; exact ⟨rfl, rfl, rfl⟩
  | leave =>
    obtain ⟨g, a, p, o, h⟩ := publish_fields (clearBusy s)
    rw [h]; exact ⟨rfl, rfl, rfl⟩
  | nothing | ctrl | discard | softReset | hardReset => exact ⟨rfl, rfl, rfl⟩

theorem effect_sameSchedule (i : Instr) (s : State) : s.SameSchedule (effect i s) := by
  obtain ⟨t, r, hchange, h⟩ := effect_change i s
  obtain ⟨hparams, hevents, hcycles⟩ := hchange.sameSchedule
  rw [h]
  exact ⟨hparams, hevents, hcycles⟩

/-- Settles O45: none of the changes touches the parameters or the schedule. -/
theorem eventsKeepParamsAndSchedule : Obligations.EventsKeepParamsAndSchedule := by
  intro i s t h
  rw [← (exec_eq_next_iff i s t).1 h]
  exact effect_sameSchedule i s

/-! ## TAG and APERR -/

/-- Of the changes only a validation left with an ACCEPT and the resets write TAG
(10_state.md section 3). -/
theorem EventChange.tag_cases {i : Instr} {s t : State} (h : EventChange i s t) :
    t.tag = s.tag ∨
    (i = .vdone ∧ s.busy = true ∧ s.pend.outcome = .accept ∧ t.tag = s.pend.tag ∧
      t.outcome = .accept) ∨
    (i ≠ .vdone ∧ endsValidation i = true ∧ t.tag = Vector.replicate 10 0 ∧ t.outcome = .none) := by
  cases h with
  | sample b =>
    obtain ⟨bu, w, d, m, c, r, y, h⟩ := takeSample_fields b s
    rw [h]; exact .inl rfl
  | enter =>
    obtain ⟨p, b, n, h⟩ := enterValidation_fields s
    rw [h]; exact .inl rfl
  | leave hi hbusy =>
    obtain ⟨hacc, h⟩ | ⟨-, h⟩ := publish_cases (clearBusy s) <;> rw [h]
    · exact .inr (.inl ⟨hi, hbusy, hacc, rfl, rfl⟩)
    · exact .inl rfl
  | softReset hne hi => exact .inr (.inr ⟨hne, hi, rfl, rfl⟩)
  | hardReset hi => exact .inr (.inr (by rw [hi]; exact ⟨nofun, rfl, rfl, rfl⟩))
  | nothing | ctrl | discard => exact .inl rfl

/-- Settles O49: a case of `EventChange.tag_cases` for each writer. -/
theorem onlyAcceptAndResetsWriteTheTag : Obligations.OnlyAcceptAndResetsWriteTheTag := by
  intro i s t h htag
  obtain ⟨u, r, hchange, rfl⟩ := exec_change h
  exact hchange.tag_cases.resolve_left htag

/-- APERR set, where it was 0, means that an ACCEPT was published. -/
theorem EventChange.aperr_clear {i : Instr} {s t : State} (h : EventChange i s t)
    (haperr : s.aperr = false) (hout : t.outcome ≠ .accept) : t.aperr = false := by
  cases h with
  | sample b =>
    obtain ⟨bu, w, d, m, c, r, y, h⟩ := takeSample_fields b s
    rw [h]; exact haperr
  | enter =>
    obtain ⟨p, b, n, h⟩ := enterValidation_fields s
    rw [h]; exact haperr
  | leave =>
    obtain ⟨-, h⟩ | ⟨-, h⟩ := publish_cases (clearBusy s) <;> rw [h] at hout ⊢
    · exact absurd rfl hout
    · exact haperr
  | nothing | ctrl | discard => exact haperr
  | softReset | hardReset => rfl

/-! ## The markers, CTRL and the front end -/

/-- The synchronizer as the frame reset leaves it (42_validator.md R150). -/
def SynchronizerReset (s t : State) : Prop :=
  t.marks = Vector.replicate 5 0 ∧ t.mcount = 0 ∧ t.widx = 0 ∧ t.run = 0 ∧ t.ready = false ∧
    t.done = false ∧ t.busy = false ∧ t.buf = s.buf

theorem EventChange.marks_cases {i : Instr} {s t : State} (h : EventChange i s t) :
    t.marks = s.marks ∨ ((∃ b, i = .sample b) ∧ Armed s) ∨ SynchronizerReset s t := by
  cases h with
  | sample b hi harmed => exact .inr (.inl ⟨⟨b, hi⟩, harmed⟩)
  | enter =>
    obtain ⟨p, b, n, h⟩ := enterValidation_fields s
    rw [h]; exact .inl rfl
  | discard hfree => exact .inr (.inr ⟨rfl, rfl, rfl, rfl, rfl, rfl, hfree, rfl⟩)
  | leave =>
    have hbusy := publish_busy (clearBusy s)
    have hbuf := publish_buf (clearBusy s)
    exact .inr (.inr ⟨rfl, rfl, rfl, rfl, rfl, rfl, hbusy, hbuf⟩)
  | nothing | ctrl => exact .inl rfl
  | softReset | hardReset => exact .inr (.inr ⟨rfl, rfl, rfl, rfl, rfl, rfl, rfl, rfl⟩)

theorem EventChange.ctrl_cases {i : Instr} {s t : State} (h : EventChange i s t) :
    t.ctrl = s.ctrl ∨ i = .reset ∨ (∃ v, i = .wrCtrl v) ∨ ∃ v, i = .hostReserved11 0 v := by
  cases h with
  | sample b =>
    obtain ⟨bu, w, d, m, c, r, y, h⟩ := takeSample_fields b s
    rw [h]; exact .inl rfl
  | ctrl v hi => exact .inr (.inr hi)
  | enter =>
    obtain ⟨p, b, n, h⟩ := enterValidation_fields s
    rw [h]; exact .inl rfl
  | leave =>
    obtain ⟨g, a, p, o, h⟩ := publish_fields (clearBusy s)
    rw [h]; exact .inl rfl
  | nothing | discard | softReset => exact .inl rfl
  | hardReset hi => exact .inr (.inl hi)

theorem EventChange.fe_cases {i : Instr} {s t : State} (h : EventChange i s t) :
    t.fe = s.fe ∨ i = .reset := by
  cases h with
  | sample b =>
    obtain ⟨bu, w, d, m, c, r, y, h⟩ := takeSample_fields b s
    rw [h]; exact .inl rfl
  | enter =>
    obtain ⟨p, b, n, h⟩ := enterValidation_fields s
    rw [h]; exact .inl rfl
  | leave =>
    obtain ⟨g, a, p, o, h⟩ := publish_fields (clearBusy s)
    rw [h]; exact .inl rfl
  | nothing | ctrl | discard | softReset => exact .inl rfl
  | hardReset hi => exact .inr hi

/-- Settles O50: one case analysis of the changes for each of the three. -/
theorem writersOfMarkersCtrlAndFrontEnd : Obligations.WritersOfMarkersCtrlAndFrontEnd := by
  intro i s t h
  obtain ⟨u, r, hchange, rfl⟩ := exec_change h
  exact ⟨hchange.marks_cases.resolve_left, hchange.ctrl_cases.resolve_left,
    hchange.fe_cases.resolve_left⟩

/-! ## The step -/

/-- Settles O43: the three cases of the step. -/
theorem stepRunsTheDecodedEvent : Obligations.StepRunsTheDecodedEvent :=
  ⟨fun s w rest i hevents hi => (step_event s w rest hevents).trans (runWord_event w i _ hi),
    fun s w rest e hevents he => (step_event s w rest hevents).trans (runWord_noEvent w e _ he),
    step_nothing⟩

/-- Everything a step can do: an event's effect, or nothing, with the word taken; a clock edge; or
nothing at all. -/
theorem step_cases {s t : State} (h : step s = .next t) :
    (∃ i rest, t = effect i (setEvents rest s)) ∨ (∃ rest, t = setEvents rest s) ∨
      (∃ c rest, t = clockTick c (setCycles rest s)) ∨ t = s := by
  cases hevents : s.events with
  | cons w rest =>
    rw [step_event s w rest hevents] at h
    cases hw : decode w with
    | ok i =>
      rw [runWord_event w i _ hw, exec_eq_next_iff] at h
      exact .inl ⟨i, rest, h.symm⟩
    | error e =>
      rw [runWord_noEvent w e _ hw] at h
      exact .inr (.inl ⟨rest, (Host.Outcome.next.inj h).symm⟩)
  | nil =>
    cases hcycles : s.cycles with
    | cons c rest =>
      rw [step_cycle s c rest hevents hcycles] at h
      exact .inr (.inr (.inl ⟨c, rest, (Host.Outcome.next.inj h).symm⟩))
    | nil =>
      rw [step_nothing s hevents hcycles] at h
      exact .inr (.inr (.inr (Host.Outcome.next.inj h).symm))

/-- The clock edge writes the front end, the countdown and the pending events. -/
theorem clockTick_fields (c : Cycle) (s : State) :
    ∃ f n ws, clockTick c s = { s with fe := f, vcnt := n, events := ws } := by
  cases hrst : c.rst
  · exact ⟨_, _, _, clockTick_run c s hrst⟩
  · exact ⟨s.fe, s.vcnt, _, clockTick_reset c s hrst⟩

/-- Settles O48: an event makes one of the changes, and no other step writes APERR. -/
theorem aperrStaysClearUntilAnAccept : Obligations.AperrStaysClearUntilAnAccept := by
  intro s t haperr _ hstep hout
  obtain ⟨i, rest, rfl⟩ | ⟨rest, rfl⟩ | ⟨c, rest, rfl⟩ | rfl := step_cases hstep
  · obtain ⟨u, r, hchange, h⟩ := effect_change i (setEvents rest s)
    rw [h] at hout ⊢
    exact hchange.aperr_clear haperr hout
  · exact haperr
  · obtain ⟨f, n, ws, h⟩ := clockTick_fields c (setCycles rest s)
    rw [h]
    exact haperr
  · exact haperr

/-! ## VALIDATE, VDONE and WR to CTRL -/

/-- Settles O14: the countdown is loaded with the latency. -/
theorem validateSetsBusyAndPendOnly : Obligations.ValidateSetsBusyAndPendOnly := fun s hfree =>
  ⟨s.params.validateLatency, (exec_eq_next_iff .validate s _).2 (enterValidation_free s hfree)⟩

/-- Settles O20, with the countdown cleared. -/
theorem vdoneAppliesThePendingResult : Obligations.VdoneAppliesThePendingResult := by
  intro s
  refine ⟨fun hfree => ?_, fun hbusy hacc => ⟨0, ?_⟩, fun hbusy hrej => ⟨0, ?_⟩⟩
  · exact (exec_eq_next_iff .vdone s s).2 (leaveValidation_free s hfree)
  · rw [exec_eq_next_iff, effect, leaveValidation_busy s hbusy, publish_accept (clearBusy s) hacc]
    rfl
  · have hperr : (s.perr || s.pend.perrSeen) = if s.pend.perrSeen then true else s.perr := by
      cases s.pend.perrSeen <;> simp
    rw [exec_eq_next_iff, effect, leaveValidation_busy s hbusy, publish_reject (clearBusy s) hrej,
      ← hperr]
    rfl

/-- CTRL reads the two low bits of the word last written (43_host_access.md R171, R173). -/
theorem ctrlWord_ctrlOfWord (v : Word) : ctrlWord (ctrlOfWord v) = v &&& 3 := by
  have h1 : 1 = 0 + 1 := rfl
  rw [ctrlWord, ctrlOfWord, ofBool_getLsbD, ofBool_getLsbD,
    BitVec.extractLsb'_append_extractLsb'_eq_extractLsb' h1]
  refine BitVec.eq_of_toNat_eq ?_
  rw [BitVec.toNat_setWidth_of_le (by decide), BitVec.extractLsb'_toNat, BitVec.toNat_and]
  exact (Nat.and_two_pow_sub_one_eq_mod v.toNat 2).symm

/-- Settles O34: CTRL holds the two low bits, and EN 0 masks the sampler. -/
theorem writeCtrlTakesTwoBits : Obligations.WriteCtrlTakesTwoBits := by
  refine fun v s => ⟨exec_eq_effect (.wrCtrl v) s, fun t h => ?_⟩
  obtain rfl := (exec_eq_next_iff (.wrCtrl v) s t).1 h
  exact ⟨ctrlWord_ctrlOfWord v, fun hen b => sampleDroppedWhileMasked b _ (.inr hen)⟩

/-! ## PEND -/

/-- `PEND <- p`. -/
def setPend (p : Pend) (s : State) : State := { s with pend := p }

theorem recordMark_setPend (w : Nat) (p : Pend) (s : State) :
    recordMark w (setPend p s) = setPend p (recordMark w s) := by
  by_cases hopen : s.mcount < s.params.nMark
  · rw [recordMark_open w s hopen, recordMark_open w (setPend p s) hopen]
    rfl
  · rw [recordMark_full w s hopen, recordMark_full w (setPend p s) hopen]

theorem detect_setPend (b : Bit) (w : Nat) (p : Pend) (s : State) :
    detect b w (setPend p s) = setPend p (detect b w s) := by
  cases b with
  | false => rfl
  | true =>
    by_cases h8 : s.run = 8
    · rw [detect_ninth w s h8, detect_ninth w (setPend p s) h8, recordMark_setPend]
      rfl
    by_cases h9 : s.run = 9
    · rw [detect_held w s h9, detect_held w (setPend p s) h9]
      rfl
    · rw [detect_counted w s h8 h9, detect_counted w (setPend p s) h8 h9]
      rfl

theorem takeSample_setPend (b : Bit) (p : Pend) (s : State) :
    takeSample b (setPend p s) = setPend p (takeSample b s) := by
  cases hmasked : samplerMasked s
  · rw [takeSample_accepted b s hmasked, takeSample_accepted b (setPend p s) hmasked,
      ← detect_setPend]
    rfl
  · rw [takeSample_masked b s hmasked, takeSample_masked b (setPend p s) hmasked]

theorem takeSample_busy (b : Bit) (s : State) : (takeSample b s).busy = s.busy := by
  obtain ⟨bu, w, d, m, c, r, y, h⟩ := takeSample_fields b s
  rw [h]

/-- What `f` does to `s` reads nothing of PEND: with `p` in its place `f` leaves the same state but
for PEND, and the same PEND where it sets BUSY. -/
def PendUnread (f : State → State) (p : Pend) (s : State) : Prop :=
  ∃ q, f (setPend p s) = setPend q (f s) ∧ ((f s).busy = true → q = (f s).pend)

/-- An operation that leaves PEND alone and BUSY at 0. -/
theorem PendUnread.of_commutes {f : State → State} {p : Pend} {s : State}
    (hf : f (setPend p s) = setPend p (f s)) (hfree : (f s).busy = false) : PendUnread f p s :=
  ⟨p, hf, fun hbusy => absurd (hfree.symm.trans hbusy) nofun⟩

theorem pendUnread_enterValidation (p : Pend) (s : State) (hfree : s.busy = false) :
    PendUnread enterValidation p s := by
  rw [PendUnread, enterValidation_free s hfree, enterValidation_free (setPend p s) hfree]
  exact ⟨validateResult s, rfl, fun _ => rfl⟩

theorem pendUnread_discardFrame (p : Pend) (s : State) (hfree : s.busy = false) :
    PendUnread discardFrame p s := by
  have h := discardFrame_free s hfree
  refine .of_commutes ?_ (by rw [h, frameReset_busy, hfree])
  rw [h, discardFrame_free (setPend p s) hfree]
  rfl

theorem pendUnread_leaveValidation (p : Pend) (s : State) (hfree : s.busy = false) :
    PendUnread leaveValidation p s := by
  refine .of_commutes ?_ (leaveValidation_busy_clear s)
  rw [leaveValidation_free s hfree, leaveValidation_free (setPend p s) hfree]

theorem pendUnread_runCommand (v : Word) (p : Pend) (s : State) (hfree : s.busy = false) :
    PendUnread (runCommand v) p s := by
  by_cases h3 : v = 3#32
  · rw [PendUnread, h3, runCommand_softreset, runCommand_softreset]
    exact ⟨Pend.cleared, rfl, fun _ => rfl⟩
  by_cases h1 : v = 1#32
  · rw [PendUnread, h1, runCommand_validate s hfree, runCommand_validate (setPend p s) hfree]
    exact pendUnread_enterValidation p s hfree
  by_cases h2 : v = 2#32
  · rw [PendUnread, h2, runCommand_discard s hfree, runCommand_discard (setPend p s) hfree]
    exact pendUnread_discardFrame p s hfree
  · have hother (t : State) := runCommand_other v t h1 h2 h3
    exact .of_commutes ((hother _).trans (congrArg (setPend p) (hother s).symm))
      (by rw [hother, hfree])

theorem regAddr_cases (a : RegAddr) : a = 0 ∨ a = 1 ∨ 2 ≤ a.toNat := by
  bv_omega

theorem pendUnread_regWrite (a : RegAddr) (v : Word) (p : Pend) (s : State)
    (hfree : s.busy = false) : PendUnread (regWrite a v) p s := by
  obtain rfl | rfl | ha := regAddr_cases a
  · exact .of_commutes rfl hfree
  · exact pendUnread_runCommand v p s hfree
  · have hignored (t : State) := regWrite_ignored a v t ha
    exact .of_commutes ((hignored _).trans (congrArg (setPend p) (hignored s).symm))
      (by rw [hignored, hfree])

theorem pendUnread_effect (i : Instr) (p : Pend) (s : State) (hfree : s.busy = false) :
    PendUnread (effect i) p s := by
  cases i with
  | sample b =>
    exact .of_commutes (takeSample_setPend b p s) ((takeSample_busy b s).trans hfree)
  | wrCmd v => exact pendUnread_runCommand v p s hfree
  | hostReserved11 a v =>
    obtain ⟨q, h, hq⟩ := pendUnread_regWrite a v p s hfree
    exact ⟨q, congrArg (returnData 0) h, hq⟩
  | validate => exact pendUnread_enterValidation p s hfree
  | discard => exact pendUnread_discardFrame p s hfree
  | vdone => exact pendUnread_leaveValidation p s hfree
  | softreset | reset => exact ⟨Pend.cleared, rfl, fun _ => rfl⟩
  | rd | wrCtrl | wrRoStatusParam | wrRoTagText | wrRoMarks | nop | cmdReserved =>
    exact .of_commutes rfl hfree

/-- Settles O26: with BUSY 0 no event reads PEND, and VALIDATE saves a result of its own. -/
theorem pendIsUnreadWhileNotBusy : Obligations.PendIsUnreadWhileNotBusy := by
  intro i s p hfree
  obtain ⟨q, h, hq⟩ := pendUnread_effect i p s hfree
  exact ⟨effect i s, q, exec_eq_effect i s, (exec_eq_next_iff i _ _).2 h, hq⟩

end Sys2Proof.Machine
end

section
/-! PROOFS. The invariants of 10_state.md section 7: one rule per operation on the state, then the
obligations O46 and O47. -/

namespace Sys2Proof.Machine

/-! ## After reset -/

/-- With a quota in range READY 0 goes with no marker. -/
theorem params_not_ready {p : Params} (hwf : p.wf) : false = true ↔ 0 = p.nMark := by
  obtain ⟨-, ⟨hquota, -⟩, -⟩ := hwf
  exact ⟨nofun, fun h => absurd h (Nat.ne_of_lt hquota)⟩

theorem params_bufCap_pos {p : Params} (hwf : p.wf) : 0 < p.bufCap := by
  obtain ⟨⟨hcap, -⟩, -⟩ := hwf
  omega

theorem replicate_zero_get (i : Fin 5) : (Vector.replicate 5 0 : Vector Nat 5)[i] = 0 :=
  Vector.getElem_replicate i.isLt

/-- A synchronizer with no marker and no sample, results and countdowns clear. -/
theorem inv_afterReset (p : Params) (init : Nat → Bit) (hwf : p.wf) :
    (State.afterReset p init).Inv where
  params_wf := hwf
  buf_wf := afterReset_wf p init
  widx_lt := params_bufCap_pos hwf
  mcount_le := Nat.zero_le _
  ready_iff := params_not_ready hwf
  marks_unused := fun i _ => replicate_zero_get i
  marks_lt := fun i => (replicate_zero_get i).trans_lt (params_bufCap_pos hwf)
  run_le := Nat.zero_le _
  none_clear := fun _ => ⟨rfl, rfl⟩
  cnt_le := Nat.zero_le _
  vcnt_le := Nat.zero_le _

theorem params_default_wf : Params.default.wf := by
  simp [Params.wf, Params.default]

/-- Settles O46: `instantiate` is decided by the ranges, and the defaults are in range. -/
theorem invariantHoldsAfterReset : Obligations.InvariantHoldsAfterReset :=
  ⟨fun p init hwf => ⟨if_pos hwf, inv_afterReset p init hwf⟩, fun _ _ hwf => if_neg hwf,
    inv_afterReset _ _ params_default_wf⟩

/-! ## The sampler -/

theorem State.Inv.nextIdx_lt {s : State} (hinv : s.Inv) : nextIdx s < s.params.bufCap :=
  Nat.mod_lt _ hinv.bufCap_pos

theorem State.Inv.appendBit {s : State} (hinv : s.Inv) (b : Bit) : (appendBit b s).Inv :=
  { hinv with buf_wf := (appendBit_wf b s).trans hinv.buf_wf, widx_lt := hinv.nextIdx_lt }

theorem State.Inv.setRun {s : State} (hinv : s.Inv) {r : Nat}
    (hr : r ≤ if s.params.runRestart then 8 else 9) : (setRun r s).Inv :=
  { hinv with run_le := hr }

/-- A marker goes to the first free slot, and READY is set when it is the last of the quota. -/
theorem State.Inv.recordMark {s : State} (hinv : s.Inv) {w : Nat} (hw : w < s.params.bufCap) :
    (recordMark w s).Inv := by
  by_cases hopen : s.mcount < s.params.nMark
  · have hready : s.ready = false := Bool.eq_false_iff.2 fun h => hopen.ne (hinv.ready_iff.1 h)
    have hslot (i : Fin 5) : (s.marks.setIfInBounds s.mcount w)[i] =
        if s.mcount = i.val then w else s.marks[i] :=
      Vector.getElem_setIfInBounds i.isLt
    rw [recordMark_open w s hopen]
    refine { hinv with
      mcount_le := hopen, ready_iff := ?_, marks_unused := fun i hi => ?_, marks_lt := fun i => ?_ }
    · simp [readyAfterMark, hready]
    · rw [hslot, if_neg (Nat.ne_of_lt hi)]
      exact hinv.marks_unused i (Nat.le_of_succ_le hi)
    · rw [hslot]
      split_ifs
      · exact hw
      · exact hinv.marks_lt i
  · rwa [recordMark_full w s hopen]

theorem recordMark_params (w : Nat) (s : State) : (recordMark w s).params = s.params := by
  by_cases hopen : s.mcount < s.params.nMark
  · rw [recordMark_open w s hopen]
  · rw [recordMark_full w s hopen]

theorem State.Inv.detect {s : State} (hinv : s.Inv) (b : Bit) {w : Nat}
    (hw : w < s.params.bufCap) : (detect b w s).Inv := by
  have hrun := hinv.run_le
  cases b with
  | false => exact hinv.setRun (Nat.zero_le _)
  | true =>
    by_cases h8 : s.run = 8
    · rw [detect_ninth w s h8]
      refine (hinv.recordMark hw).setRun ?_
      rw [recordMark_params]
      split_ifs <;> decide
    by_cases h9 : s.run = 9
    · rw [detect_held w s h9]
      exact hinv.setRun (h9 ▸ hrun)
    · rw [detect_counted w s h8 h9]
      refine hinv.setRun ?_
      split_ifs at hrun ⊢ <;> omega

theorem State.Inv.takeSample {s : State} (hinv : s.Inv) (b : Bit) : (takeSample b s).Inv := by
  obtain h | ⟨-, -, h⟩ := takeSample_cases b s <;> rw [h]
  · exact hinv
  · exact (hinv.appendBit b).detect b hinv.nextIdx_lt

/-! ## The validation and the resets -/

theorem State.Inv.frameReset {s : State} (hinv : s.Inv) : (frameReset s).Inv :=
  { hinv with
    widx_lt := hinv.bufCap_pos
    mcount_le := Nat.zero_le _
    ready_iff := params_not_ready hinv.params_wf
    marks_unused := fun i _ => replicate_zero_get i
    marks_lt := fun i => (replicate_zero_get i).trans_lt hinv.bufCap_pos
    run_le := Nat.zero_le _ }

theorem State.Inv.clearBusy {s : State} (hinv : s.Inv) : (clearBusy s).Inv :=
  { hinv with vcnt_le := Nat.zero_le _ }

theorem State.Inv.enterValidation {s : State} (hinv : s.Inv) : (enterValidation s).Inv := by
  cases hbusy : s.busy
  · rw [enterValidation_free s hbusy]
    exact { hinv with vcnt_le := le_rfl }
  · rwa [enterValidation_busy s hbusy]

theorem State.Inv.publish {s : State} (hinv : s.Inv) : (publish s).Inv := by
  obtain ⟨-, h⟩ | ⟨-, h⟩ := publish_cases s <;> rw [h]
  · exact { hinv with none_clear := nofun }
  · exact { hinv with none_clear := nofun }

theorem State.Inv.clearResults {s : State} (hinv : s.Inv) : (clearResults s).Inv :=
  { hinv with none_clear := fun _ => ⟨rfl, rfl⟩ }

theorem State.Inv.softReset {s : State} (hinv : s.Inv) : (softReset s).Inv :=
  hinv.clearBusy.frameReset.clearResults

/-- RESET is SOFTRESET, and CTRL and the front end too (70_reset_and_hazards.md R220). -/
theorem State.Inv.hardReset {s : State} (hinv : s.Inv) : (hardReset s).Inv :=
  { hinv.softReset with cnt_le := Nat.zero_le _ }

/-! ## The step -/

theorem EventChange.inv {i : Instr} {s t : State} (h : EventChange i s t) (hinv : s.Inv) :
    t.Inv := by
  cases h with
  | nothing => exact hinv
  | sample b => exact hinv.takeSample b
  | ctrl v => exact { hinv with }
  | enter => exact hinv.enterValidation
  | discard => exact hinv.frameReset
  | leave => exact hinv.clearBusy.publish.frameReset
  | softReset => exact hinv.softReset
  | hardReset => exact hinv.hardReset

theorem State.Inv.effect {s : State} (hinv : s.Inv) (i : Instr) : (effect i s).Inv := by
  obtain ⟨t, r, hchange, h⟩ := effect_change i s
  rw [h]
  exact { hchange.inv hinv with }

theorem State.Inv.setEvents {s : State} (hinv : s.Inv) (ws : List PortWord) :
    (setEvents ws s).Inv :=
  { hinv with }

theorem State.Inv.setCycles {s : State} (hinv : s.Inv) (cs : List Cycle) : (setCycles cs s).Inv :=
  { hinv with }

theorem State.Inv.tickRegisters {s : State} (hinv : s.Inv) (c : Cycle) :
    (tickRegisters c s).Inv := by
  refine { hinv with cnt_le := ?_, vcnt_le := (Nat.sub_le _ 1).trans hinv.vcnt_le }
  rw [tickRegisters_fe]
  split_ifs
  · exact nextCnt_le _ s.fe hinv.cnt_le
  · exact hinv.cnt_le

theorem State.Inv.clockTick {s : State} (hinv : s.Inv) (c : Cycle) : (clockTick c s).Inv := by
  cases hrst : c.rst
  · rw [clockTick_run c s hrst]
    exact (hinv.tickRegisters c).setEvents _
  · rw [clockTick_reset c s hrst]
    exact hinv.setEvents _

/-- Settles O47: an event makes one of the changes, each of which keeps the invariants, and a clock
edge moves only the two countdowns. -/
theorem stepKeepsTheInvariant : Obligations.StepKeepsTheInvariant := by
  intro s t hinv hstep
  obtain ⟨i, rest, rfl⟩ | ⟨rest, rfl⟩ | ⟨c, rest, rfl⟩ | rfl := step_cases hstep
  · exact (hinv.setEvents rest).effect i
  · exact hinv.setEvents rest
  · exact (hinv.setCycles rest).clockTick c
  · exact hinv

end Sys2Proof.Machine
end

section
/-! PROOFS. Sequences of samples: what each SAMPLE leaves alone and how it moves STATE, the buffer
as a window of the samples taken and the markers' distance, then the obligations O7 to O11
(40_sampler.md sections 1 to 3, 70_reset_and_hazards.md section 3). -/

open Sys2Proof.Claim

namespace Sys2Proof.Machine

/-! ## One sample -/

/-- Settles O7: the fields SAMPLE can change, set back. -/
theorem sampleLeavesEverythingElse : Obligations.SampleLeavesEverythingElse := by
  intro b s
  obtain ⟨bu, w, d, m, c, r, y, h⟩ := takeSample_fields b s
  refine ⟨takeSample b s, exec_sample_eq_takeSample b s, ?_⟩
  rw [h]

/-- STATE as a number (10_state.md R37). -/
theorem stateNo_eq (s : State) :
    stateNo s =
      if s.busy then 3 else if s.ready || s.done then 2 else if 0 < s.mcount then 1 else 0 := by
  rw [stateNo, regRead_status, statusWord_state, controlState_bits]
  simp only [apply_ite BitVec.toNat]
  rfl

/-- SAMPLE clears neither READY nor DONE, leaves BUSY and records at most one marker. -/
theorem takeSample_progress (b : Bit) (s : State) :
    (s.ready = true → (takeSample b s).ready = true) ∧
      (s.done = true → (takeSample b s).done = true) ∧
      s.mcount ≤ (takeSample b s).mcount ∧ (takeSample b s).mcount ≤ s.mcount + 1 := by
  obtain h | ⟨-, -, h⟩ := takeSample_cases b s
  · rw [h]
    exact ⟨id, id, le_rfl, Nat.le_succ _⟩
  have hdone : s.done = true → doneAfterAppend s = true := fun hd => by simp [doneAfterAppend, hd]
  obtain ⟨m, c, r, y, hd, ⟨-, rfl, rfl⟩ | ⟨-, -, -, -, rfl, rfl⟩⟩ :=
    detect_cases b (nextIdx s) (appendBit b s) <;> rw [h, hd]
  · exact ⟨id, hdone, le_rfl, Nat.le_succ _⟩
  · exact ⟨fun hr => by simp [readyAfterMark, hr], hdone, Nat.le_succ _, le_rfl⟩

/-- Settles O8: outside VALIDATING, STATE is read from READY, DONE and MCOUNT, and none of them
falls. -/
theorem sampleMovesStateOnlyUpward : Obligations.SampleMovesStateOnlyUpward := by
  intro b s t _ h
  obtain rfl : takeSample b s = t := (exec_eq_next_iff (.sample b) s t).1 h
  obtain ⟨hready, hdone, hle, hle'⟩ := takeSample_progress b s
  have hframe : (s.ready || s.done) = true →
      ((takeSample b s).ready || (takeSample b s).done) = true := by
    simp only [Bool.or_eq_true]
    exact Or.imp hready hdone
  rw [stateNo_eq, stateNo_eq, takeSample_busy, ← Bool.or_eq_true]
  generalize (s.ready || s.done) = f at hframe
  generalize ((takeSample b s).ready || (takeSample b s).done) = f' at hframe
  cases s.busy with
  | true => simp
  | false =>
    cases f with
    | true => simp [hframe rfl]
    | false =>
      cases f' with
      | true => simp only [Bool.false_eq_true, if_false, if_true]; split_ifs <;> simp
      | false => simp only [Bool.false_eq_true, if_false]; split_ifs <;> simp <;> omega

/-! ## Any number of samples -/

/-- The samples of the bits `bs`, one after another. -/
def takeSamples (bs : List Bit) (s : State) : State := bs.foldl (fun t b => takeSample b t) s

theorem takeSamples_cons (b : Bit) (bs : List Bit) (s : State) :
    takeSamples (b :: bs) s = takeSamples bs (takeSample b s) := rfl

theorem takeSamples_append (bs cs : List Bit) (s : State) :
    takeSamples (bs ++ cs) s = takeSamples cs (takeSamples bs s) :=
  List.foldl_append

theorem takeSamples_concat (bs : List Bit) (b : Bit) (s : State) :
    takeSamples (bs ++ [b]) s = takeSample b (takeSamples bs s) :=
  takeSamples_append bs [b] s

theorem foldl_effect_samples (bs : List Bit) (s : State) :
    (samples bs).foldl (fun t i => effect i t) s = takeSamples bs s :=
  List.foldl_map

theorem execAll_samples (bs : List Bit) (s : State) :
    execAll (samples bs) s = .next (takeSamples bs s) := by
  rw [execAll_eq_foldl, foldl_effect_samples]

theorem State.Inv.takeSamples {s : State} (hinv : s.Inv) (bs : List Bit) :
    (takeSamples bs s).Inv := by
  induction bs generalizing s with
  | nil => exact hinv
  | cons b bs ih => exact ih (hinv.takeSample b)

theorem armed_takeSamples (bs : List Bit) (s : State) (h : Armed s) :
    Armed (takeSamples bs s) := by
  induction bs generalizing s with
  | nil => exact h
  | cons b bs ih => exact ih _ (armed_takeSample b s h)

theorem takeSamples_params (bs : List Bit) (s : State) :
    (takeSamples bs s).params = s.params := by
  induction bs generalizing s with
  | nil => rfl
  | cons b bs ih => exact (ih _).trans (effect_sameSchedule (.sample b) s).params

/-- WIDX advances by the number of accepted samples, modulo BUF_CAP (40_sampler.md R101). -/
theorem takeSamples_widx (bs : List Bit) (s : State) (hinv : s.Inv) (harmed : Armed s) :
    (takeSamples bs s).widx = (s.widx + bs.length) % s.params.bufCap := by
  induction bs using List.reverseRecOn with
  | nil => exact (Nat.mod_eq_of_lt hinv.widx_lt).symm
  | append_singleton bs b ih =>
    obtain ⟨-, hnext, -⟩ := takeSample_of_armed b _ (armed_takeSamples bs s harmed)
    rw [takeSamples_concat, hnext, nextIdx, ih, takeSamples_params, Nat.mod_add_mod,
      List.length_append, List.length_singleton, Nat.add_assoc]

/-! ## The buffer as a window -/

/-- What is read after one accepted sample (40_sampler.md R101). -/
theorem at_takeSample (b : Bit) (s : State) (hinv : s.Inv) (harmed : Armed s) (x : Nat) :
    at_ (takeSample b s) x = if x % s.params.bufCap = s.widx then b else at_ s x := by
  rw [at_takeSample_of_armed b s harmed]
  split_ifs with hx
  · have h := bufRead_set_same s.buf s.params.bufCap s.widx b hinv.widx_lt
      ((Memory.wf_iff s).1 hinv.buf_wf)
    rw [bufRead, Nat.mod_eq_of_lt hinv.widx_lt] at h
    rw [bufRead, hx, h]
  · exact bufRead_set_other s.buf s.params.bufCap s.widx x b hx

/-- Positions less than BUF_CAP apart are different entries. -/
theorem add_mod_ne {w i j cap : Nat} (hlt : i < j) (hcap : j < i + cap) :
    (w + i) % cap ≠ (w + j) % cap := by
  intro h
  have hdvd : cap ∣ j - i := (Nat.modEq_iff_dvd' hlt.le).1 (Nat.ModEq.add_left_cancel' w h)
  have := Nat.le_of_dvd (by omega) hdvd
  omega

/-- Each of the last BUF_CAP samples is at its number from where WIDX was. -/
theorem at_takeSamples_window (bs : List Bit) (s : State) (hinv : s.Inv) (harmed : Armed s)
    (j : Nat) (hj : j < bs.length) (hcap : bs.length ≤ j + s.params.bufCap) :
    at_ (takeSamples bs s) (s.widx + j) = bs[j] := by
  induction bs using List.reverseRecOn with
  | nil => nomatch hj
  | append_singleton bs b ih =>
    rw [List.length_append, List.length_singleton] at hj hcap
    rw [takeSamples_concat,
      at_takeSample b _ (hinv.takeSamples bs) (armed_takeSamples bs s harmed), takeSamples_params,
      takeSamples_widx bs s hinv harmed]
    obtain hlt | rfl := Nat.lt_succ_iff_lt_or_eq.1 hj
    · rw [if_neg (add_mod_ne hlt (by omega)), ih hlt (by omega), List.getElem_append_left hlt]
    · rw [if_pos rfl, List.getElem_concat_length rfl]

/-- An entry no sample reaches keeps its contents. -/
theorem at_takeSamples_unreached (bs : List Bit) (s : State) (hinv : s.Inv) (harmed : Armed s)
    (x : Nat) (hx : ∀ j, j < bs.length → x % s.params.bufCap ≠ (s.widx + j) % s.params.bufCap) :
    at_ (takeSamples bs s) x = at_ s x := by
  induction bs using List.reverseRecOn with
  | nil => rfl
  | append_singleton bs b ih =>
    rw [List.length_append, List.length_singleton] at hx
    rw [takeSamples_concat,
      at_takeSample b _ (hinv.takeSamples bs) (armed_takeSamples bs s harmed), takeSamples_params,
      takeSamples_widx bs s hinv harmed, if_neg (hx _ (Nat.lt_succ_self _)),
      ih fun j hj => hx j (Nat.lt_succ_of_lt hj)]

/-- Settles O9: the window with WIDX 0 at its start. -/
theorem bufferIsTheWindowOfTheSamples : Obligations.BufferIsTheWindowOfTheSamples := by
  intro s bs hinv harmed hwidx
  refine ⟨takeSamples bs s, execAll_samples bs s, ?_, fun j hj hcap => ?_, fun i hi hcap => ?_⟩
  · rw [takeSamples_widx bs s hinv harmed, hwidx, Nat.zero_add]
  · have h := at_takeSamples_window bs s hinv harmed j hj hcap
    rw [hwidx, Nat.zero_add] at h
    rw [h, List.getElem?_eq_getElem hj]
  · refine at_takeSamples_unreached bs s hinv harmed i fun j hj => ?_
    rw [hwidx, Nat.zero_add, Nat.mod_eq_of_lt hcap, Nat.mod_eq_of_lt (by omega)]
    omega

/-- Settles O11: the samples after a frame of 55 positions reach its first one last. -/
theorem frameSurvivesUntilOverwritten : Obligations.FrameSurvivesUntilOverwritten := by
  intro s m bs b hinv harmed hm hwidx hlen
  refine ⟨takeSamples bs s, execAll_samples bs s, fun off hoff => ?_, fun hfull =>
    ⟨_, exec_sample_eq_takeSample b _, ?_⟩⟩
  · refine at_takeSamples_unreached bs s hinv harmed _ fun j hj => ?_
    rw [hwidx, Nat.mod_add_mod, Nat.add_assoc]
    exact add_mod_ne (by omega) (by omega)
  · have hlast : (m + 55 + bs.length) % s.params.bufCap = m := by
      rw [Nat.add_assoc, Nat.add_comm 55, hfull, Nat.add_mod_right, Nat.mod_eq_of_lt hm]
    rw [at_takeSample b _ (hinv.takeSamples bs) (armed_takeSamples bs s harmed), takeSamples_params,
      takeSamples_widx bs s hinv harmed, hwidx, Nat.mod_add_mod, hlast,
      if_pos (Nat.mod_eq_of_lt hm)]

/-! ## The distance of the markers -/

/-- With RUN too low to reach the ninth one, or held, fewer than 9 samples record nothing
(40_sampler.md R103, R104). -/
theorem takeSamples_keeps_markers (bs : List Bit) (s : State) (harmed : Armed s)
    (hrun : s.run + bs.length < 9 ∨ s.run = 9 ∧ bs.length < 9) :
    (takeSamples bs s).mcount = s.mcount ∧ (takeSamples bs s).marks = s.marks := by
  induction bs generalizing s with
  | nil => exact ⟨rfl, rfl⟩
  | cons b bs ih =>
    rw [List.length_cons] at hrun
    obtain ⟨hmarks, hmcount, -⟩ := takeSample_keeps_markers b s fun _ h8 => by omega
    have hnext : (takeSample b s).run + bs.length < 9 ∨
        (takeSample b s).run = 9 ∧ bs.length < 9 := by
      cases b with
      | false => rw [takeSample_zero_run s harmed]; omega
      | true =>
        obtain hlow | ⟨h9, hlen⟩ := hrun
        · rw [takeSample_counted_run s harmed (by omega)]; omega
        · rw [takeSample_held_run s harmed h9]; omega
    rw [takeSamples_cons, ← hmcount, ← hmarks]
    exact ih _ (armed_takeSample b s harmed) hnext

/-- Settles O10: only the ninth one of a run changes MCOUNT, and it restarts or holds RUN. -/
theorem markersAreNineSamplesApart : Obligations.MarkersAreNineSamplesApart := by
  refine ⟨fun b s t _ h hchange => ?_, fun s bs _ harmed hrun hlen =>
    ⟨takeSamples bs s, execAll_samples bs s, takeSamples_keeps_markers bs s harmed ?_⟩⟩
  · obtain rfl := (exec_eq_next_iff (.sample b) s t).1 h
    obtain hs | ⟨hbusy, hen, -⟩ := takeSample_cases b s
    · exact absurd (congrArg State.mcount hs) hchange
    have hninth : b = true ∧ s.run = 8 := by
      by_contra hno
      obtain ⟨-, hmcount, -⟩ := takeSample_keeps_markers b s fun hb h8 => absurd ⟨hb, h8⟩ hno
      exact hchange hmcount
    obtain ⟨rfl, h8⟩ := hninth
    exact ⟨rfl, h8, takeSample_ninth_run s ⟨hbusy, hen⟩ h8⟩
  · split_ifs at hrun <;> omega

end Sys2Proof.Machine
end

section
/-! PROOFS. A validation from VALIDATE to VDONE: what it publishes, what its result depends on and
what row-parity enforcement gives, then the obligations O21, O22, O23 and O25 (42_validator.md
section 5, 10_state.md section 3). -/

open Sys2Proof.Claim

namespace Sys2Proof.Machine

/-! ## VALIDATE, then VDONE -/

theorem stateNo_frameReset (s : State) (hfree : s.busy = false) : stateNo (frameReset s) = 0 := by
  rw [stateNo_eq]
  simp [hfree]

theorem execAll_validate_vdone (s : State) :
    execAll [.validate, .vdone] s = .next (leaveValidation (enterValidation s)) := by
  rw [execAll_cons, execAll_cons, execAll_nil]
  rfl

/-- VDONE with an ACCEPT pending (42_validator.md R149). -/
theorem leaveValidation_of_accept (s : State) (hbusy : s.busy = true)
    (hacc : s.pend.outcome = .accept) :
    (leaveValidation s).outcome = .accept ∧ (leaveValidation s).tag = s.pend.tag ∧
      (leaveValidation s).aperr = s.pend.rowbad ∧ (leaveValidation s).perr = false ∧
      stateNo (leaveValidation s) = 0 := by
  rw [leaveValidation_busy s hbusy, publish_accept (clearBusy s) hacc]
  exact ⟨rfl, rfl, rfl, rfl, stateNo_frameReset _ rfl⟩

/-- VDONE with a REJECT pending (42_validator.md R149). -/
theorem leaveValidation_of_reject (s : State) (hbusy : s.busy = true)
    (hrej : s.pend.outcome = .reject) :
    (leaveValidation s).outcome = .reject ∧ (leaveValidation s).tag = s.tag ∧
      (leaveValidation s).aperr = s.aperr ∧ stateNo (leaveValidation s) = 0 ∧
      (leaveValidation s).perr = (s.perr || s.pend.perrSeen) := by
  rw [leaveValidation_busy s hbusy, publish_reject (clearBusy s) hrej]
  exact ⟨rfl, rfl, rfl, stateNo_frameReset _ rfl, rfl⟩

/-- VALIDATE keeps what VDONE may change. -/
theorem enterValidation_of_free (s : State) (hfree : s.busy = false) :
    (enterValidation s).busy = true ∧ (enterValidation s).pend = validateResult s ∧
      (enterValidation s).tag = s.tag ∧ (enterValidation s).aperr = s.aperr ∧
      (enterValidation s).perr = s.perr := by
  rw [enterValidation_free s hfree]
  exact ⟨rfl, rfl, rfl, rfl, rfl⟩

/-- A candidate spells one tag only. -/
theorem spells_unique {s : State} {m : Nat} {t t' : Vector Nibble 10} (h : Spells s m t)
    (h' : Spells s m t') : t = t' :=
  Vector.ext fun k hk => BitVec.eq_of_toNat_eq ((h ⟨k, hk⟩).trans (h' ⟨k, hk⟩).symm)

/-- Settles O21: the first accepted candidate is the result, and VDONE publishes it. -/
theorem acceptedFrameIsRecovered : Obligations.AcceptedFrameIsRecovered := by
  intro s i h hinv hfree hfirst hspells
  have hresult := validateResult_of_firstAccepted s i hinv.mcount_le_five hfirst
  obtain ⟨hbusy, hpend, -⟩ := enterValidation_of_free s hfree
  rw [hresult] at hpend
  obtain ⟨hout, htag, haperr, hperr, hidle⟩ :=
    leaveValidation_of_accept (enterValidation s) hbusy (by rw [hpend])
  rw [hpend] at htag haperr
  refine ⟨_, execAll_validate_vdone s, hout, ?_, hperr, ?_, hidle⟩
  · rw [htag]
    exact spells_unique (spells_charsAt s _) hspells
  · rw [haperr]
    exact rowBadAt_iff _ _

/-- Settles O22: with no candidate accepted VDONE publishes REJECT and the mismatches seen. -/
theorem rejectedFrameLeavesTheTag : Obligations.RejectedFrameLeavesTheTag := by
  intro s hinv hfree hnone
  have hresult := validateResult_of_noneAccepted s hinv.mcount_le_five hnone
  obtain ⟨hbusy, hpend, htag', haperr', hperr'⟩ := enterValidation_of_free s hfree
  rw [hresult] at hpend
  obtain ⟨hout, htag, haperr, hidle, hperr⟩ :=
    leaveValidation_of_reject (enterValidation s) hbusy (by rw [hpend])
  rw [hpend, hperr'] at hperr
  refine ⟨_, execAll_validate_vdone s, hout, htag.trans htag', haperr.trans haperr', hidle, ?_⟩
  rw [hperr, Bool.or_eq_true, mismatchAmong_iff]

/-! ## What the result depends on -/

section
variable {B B' : Nat → Bit} {m : Nat}

theorem nibbleAt_congr {p : Nat} (h : ∀ x, p ≤ x → x < p + 4 → B' x = B x) :
    nibbleAt B' p = nibbleAt B p := by
  rw [nibbleAt, nibbleAt, h p (by omega) (by omega), h (p + 1) (by omega) (by omega),
    h (p + 2) (by omega) (by omega), h (p + 3) (by omega) (by omega)]

theorem charsAt_congr (h : ∀ x, m ≤ x → x < m + 55 → B' x = B x) :
    charsAt B' m = charsAt B m := by
  refine Vector.ext fun k hk => ?_
  rw [charsAt_getElem, charsAt_getElem]
  exact nibbleAt_congr fun x _ _ => h x (by omega) (by omega)

theorem rowBadAt_congr (h : ∀ x, m ≤ x → x < m + 55 → B' x = B x) :
    rowBadAt B' m = rowBadAt B m := by
  rw [Bool.eq_iff_iff, rowBadAt_iff, rowBadAt_iff]
  refine exists_congr fun k => and_congr_right fun hk => ?_
  rw [h (m + 5 * k + 4) (by omega) (by omega), h (m + 5 * k + 3) (by omega) (by omega)]

theorem passes_congr {c : Nat} (hc : c < 4) (rpe : Bit)
    (h : ∀ x, m ≤ x → x < m + 55 → B' x = B x) : passes B' c rpe m = passes B c rpe m := by
  rw [passes, passes, rowBadAt_congr h, stopAt, stopAt, colAt, colAt,
    h (m + 54) (by omega) (by omega), h (m + 50 + c) (by omega) (by omega)]

/-- The search reads the 55 positions of each candidate and no other (42_validator.md section 5). -/
theorem tryCandidates_congr {c : Nat} (hc : c < 4) (rpe seen : Bit) (ms : List Nat)
    (h : ∀ m ∈ ms, ∀ x, m ≤ x → x < m + 55 → B' x = B x) :
    tryCandidates B' c rpe seen ms = tryCandidates B c rpe seen ms := by
  induction ms generalizing seen with
  | nil => rfl
  | cons m ms ih =>
    obtain ⟨hm, hms⟩ := List.forall_mem_cons.1 h
    have hpasses := passes_congr hc rpe hm
    cases hp : passes B c rpe m
    · rw [tryCandidates_skip B c rpe seen m ms hp,
        tryCandidates_skip B' c rpe seen m ms (hpasses.trans hp), rowBadAt_congr hm, ih _ hms]
    · rw [tryCandidates_pass B c rpe seen m ms hp,
        tryCandidates_pass B' c rpe seen m ms (hpasses.trans hp), rowBadAt_congr hm,
        charsAt_congr hm]

end

theorem mem_candidates {s : State} {m : Nat} (h : m ∈ candidates s) :
    ∃ i, i < s.mcount ∧ m = cand s i := by
  obtain ⟨i, hi, rfl⟩ := List.mem_iff_getElem.1 h
  have hlt : i < s.mcount ∧ i < 5 := by simpa [candidates] using hi
  refine ⟨i, hlt.1, ?_⟩
  simp [candidates, cand, hlt.2]

/-- Settles O23: the two searches run over the same candidates and read the same bits. -/
theorem resultReadsOnlyTheCandidates : Obligations.ResultReadsOnlyTheCandidates := by
  intro s s' t t' hfree hfree' hparams hmarks hmcount hrpe hbits h h'
  obtain rfl := (exec_eq_next_iff .validate s t).1 h
  obtain rfl := (exec_eq_next_iff .validate s' t').1 h'
  have hcands : candidates s' = candidates s := by rw [candidates, candidates, hmarks, hmcount]
  rw [effect, effect, enterValidation_free s hfree, enterValidation_free s' hfree']
  change validateResult s' = validateResult s
  rw [validateResult, validateResult, hcands, hrpe, hparams]
  refine tryCandidates_congr s.params.colIdx.isLt _ _ _ fun m hm x hle hlt => ?_
  obtain ⟨i, hi, rfl⟩ := mem_candidates hm
  obtain ⟨off, rfl⟩ := Nat.exists_eq_add_of_le hle
  have hbit := hbits i off hi (by omega)
  rwa [at_, hparams] at hbit

/-! ## Row parity enforced -/

/-- With RPE 1 an accepted candidate has no row mismatch (42_validator.md R147). -/
theorem rowBadAt_of_passes_enforced {B : Nat → Bit} {c m : Nat} (h : passes B c true m = true) :
    rowBadAt B m = false := by
  simp only [passes, Bool.and_eq_true, Bool.not_true, Bool.false_or, Bool.not_eq_true'] at h
  exact h.2

theorem tryCandidates_enforced (B : Nat → Bit) (c : Nat) (seen : Bit) (ms : List Nat)
    (hacc : (tryCandidates B c true seen ms).outcome = .accept) :
    (tryCandidates B c true seen ms).rowbad = false := by
  induction ms generalizing seen with
  | nil => rfl
  | cons m ms ih =>
    cases hp : passes B c true m
    · rw [tryCandidates_skip B c true seen m ms hp] at hacc ⊢
      exact ih _ hacc
    · rw [tryCandidates_pass B c true seen m ms hp]
      exact rowBadAt_of_passes_enforced hp

theorem validateResult_enforced (s : State) (hrpe : s.ctrl.rpe = true)
    (hacc : (validateResult s).outcome = .accept) : (validateResult s).rowbad = false := by
  rw [validateResult, hrpe] at hacc ⊢
  exact tryCandidates_enforced _ _ _ _ hacc

/-- Settles O25: the events between keep PEND, so VDONE publishes what the enforced search found. -/
theorem enforcedParityNeverAcceptsAMismatch :
    Obligations.EnforcedParityNeverAcceptsAMismatch := by
  intro s is t u hfree hrpe his ht hu hout
  obtain rfl := (exec_eq_next_iff .vdone t u).1 hu
  rw [execAll_cons] at ht
  obtain ⟨hbusy, hpend, -⟩ := enterValidation_of_free s hfree
  obtain ⟨c, r, h⟩ := execAll_of_busy is (enterValidation s) hbusy his
  have htt := Host.Outcome.next.inj (h.symm.trans ht)
  have hbusy' : t.busy = true := htt ▸ hbusy
  have hpend' : t.pend = validateResult s := htt ▸ hpend
  cases hacc : t.pend.outcome
  · obtain ⟨-, -, haperr, -⟩ := leaveValidation_of_accept t hbusy' hacc
    rw [hpend'] at hacc haperr
    exact haperr.trans (validateResult_enforced s hrpe hacc)
  · obtain ⟨hrej, -⟩ := leaveValidation_of_reject t hbusy' hacc
    nomatch hrej.symm.trans hout

end Sys2Proof.Machine
end

section
/-! PROOFS. A whole frame from its samples to its tag: the bits of a frame by position, the marker
its preamble leaves and the candidate in the buffer, then the obligation O59 (42_validator.md
section 5, 00_scope.md R3). -/

open Sys2Proof.Claim

namespace Sys2Proof.Machine

/-! ## The bits of a frame -/

/-- A frame after its preamble: the 55 positions of a candidate (00_scope.md R3). -/
def candidateBits (tag : Vector Nibble 10) (col : Vector Bit 4) (stop : Bit) : List Bit :=
  tag.toList.flatMap charBits ++ (col.toList ++ [stop])

theorem frameBits_eq (tag : Vector Nibble 10) (col : Vector Bit 4) (stop : Bit) :
    frameBits tag col stop = List.replicate 9 true ++ candidateBits tag col stop := by
  simp only [frameBits, candidateBits, List.append_assoc]

theorem charBits_length (h : Nibble) : (charBits h).length = 5 := rfl

theorem flatMap_charBits_length (hs : List Nibble) :
    (hs.flatMap charBits).length = 5 * hs.length := by
  simp [List.length_flatMap, charBits_length, Nat.mul_comm]

/-- Bit `r` of character `k` (30_encoding.md R89). -/
theorem flatMap_charBits_getElem? (hs : List Nibble) (k r : Nat) (hk : k < hs.length) (hr : r < 5) :
    (hs.flatMap charBits)[5 * k + r]? = (charBits hs[k])[r]? := by
  induction hs generalizing k with
  | nil => nomatch hk
  | cons h hs ih =>
    rw [List.flatMap_cons]
    cases k with
    | zero =>
      rw [Nat.mul_zero, Nat.zero_add]
      exact List.getElem?_append_left hr
    | succ k =>
      rw [List.getElem?_append_right (by rw [charBits_length]; omega), charBits_length,
        show 5 * (k + 1) + r - 5 = 5 * k + r by omega]
      exact ih k (Nat.lt_of_succ_lt_succ hk)

section
variable (tag : Vector Nibble 10) (col : Vector Bit 4) (stop : Bit)

theorem candidateBits_length : (candidateBits tag col stop).length = 55 := by
  rw [candidateBits, List.length_append, flatMap_charBits_length, Vector.length_toList,
    List.length_append, Vector.length_toList, List.length_singleton]

theorem candidateBits_char (k r : Nat) (hk : k < 10) (hr : r < 5) :
    (candidateBits tag col stop)[5 * k + r]? = (charBits tag[k])[r]? := by
  have hlen := flatMap_charBits_length tag.toList
  rw [Vector.length_toList] at hlen
  rw [candidateBits, List.getElem?_append_left (by omega),
    flatMap_charBits_getElem? _ k r (by rwa [Vector.length_toList]) hr, Vector.getElem_toList]

theorem candidateBits_trailer (j : Nat) :
    (candidateBits tag col stop)[50 + j]? = (col.toList ++ [stop])[j]? := by
  have hlen := flatMap_charBits_length tag.toList
  rw [Vector.length_toList] at hlen
  rw [candidateBits, List.getElem?_append_right (by omega), hlen, Nat.add_sub_cancel_left]

end

/-! ## A candidate that holds a frame -/

/-- The 55 positions of candidate `m` are the bits of a frame. -/
def HoldsFrame (s : State) (m : Nat) (tag : Vector Nibble 10) (col : Vector Bit 4) (stop : Bit) :
    Prop :=
  ∀ j, j < 55 → some (at_ s (m + j)) = (candidateBits tag col stop)[j]?

section
variable {s : State} {m : Nat} {tag : Vector Nibble 10} {col : Vector Bit 4} {stop : Bit}

theorem HoldsFrame.char (h : HoldsFrame s m tag col stop) (k r : Nat) (hk : k < 10) (hr : r < 5) :
    some (at_ s (m + 5 * k + r)) = (charBits tag[k])[r]? := by
  rw [Nat.add_assoc, h (5 * k + r) (by omega), candidateBits_char tag col stop k r hk hr]

theorem nibble_toNat (n : Nibble) :
    n.toNat = 8 * (n.getLsbD 3).toNat + 4 * (n.getLsbD 2).toNat + 2 * (n.getLsbD 1).toNat +
      (n.getLsbD 0).toNat := by
  revert n; decide

theorem HoldsFrame.spells (h : HoldsFrame s m tag col stop) : Spells s m tag := by
  intro k
  have hbit (r : Nat) (hr : r < 5) := h.char k.val r k.isLt hr
  have h0 := Option.some.inj (hbit 0 (by decide))
  have h1 := Option.some.inj (hbit 1 (by decide))
  have h2 := Option.some.inj (hbit 2 (by decide))
  have h3 := Option.some.inj (hbit 3 (by decide))
  rw [Nat.add_zero] at h0
  rw [h0, h1, h2, h3]
  exact nibble_toNat _

/-- The row-parity bit of a frame repeats bit 0 of its character (30_encoding.md R89). -/
theorem HoldsFrame.no_mismatch (h : HoldsFrame s m tag col stop) : ¬ RowMismatch s m := by
  rintro ⟨k, hk, hne⟩
  have h3 := Option.some.inj (h.char k 3 hk (by decide))
  have h4 := Option.some.inj (h.char k 4 hk (by decide))
  exact hne (h4.trans h3.symm)

theorem HoldsFrame.accepted (h : HoldsFrame s m tag col false)
    (hcol : col[s.params.colIdx] = false) : Accepted s m := by
  refine ⟨?_, ?_, fun _ => h.no_mismatch⟩
  · have hstop := h 54 (by decide)
    rw [candidateBits_trailer tag col false 4] at hstop
    simpa using hstop
  · have hc := s.params.colIdx.isLt
    rw [Fin.getElem_fin] at hcol
    have hmon := h (50 + s.params.colIdx.val) (by omega)
    rw [candidateBits_trailer tag col false, List.getElem?_append_left (by simp)] at hmon
    simpa [hcol, Nat.add_assoc] using hmon

end

/-! ## The samples of a frame -/

/-- Zeros leave RUN 0 and record nothing. -/
theorem takeSamples_zeros (n : Nat) (s : State) (harmed : Armed s) (hrun : s.run = 0 ∨ 0 < n) :
    (takeSamples (List.replicate n false) s).run = 0 ∧
      (takeSamples (List.replicate n false) s).mcount = s.mcount := by
  induction n generalizing s with
  | zero => exact ⟨hrun.resolve_right (Nat.lt_irrefl 0), rfl⟩
  | succ n ih =>
    obtain ⟨-, hmcount, -⟩ := takeSample_keeps_markers false s nofun
    rw [List.replicate_succ, takeSamples_cons, ← hmcount]
    exact ih _ (armed_takeSample false s harmed) (.inl (takeSample_zero_run s harmed))

/-- Ones are counted up to 8 (40_sampler.md R103). -/
theorem takeSamples_ones_run (n : Nat) (s : State) (harmed : Armed s) (hn : s.run + n ≤ 8) :
    (takeSamples (List.replicate n true) s).run = s.run + n := by
  induction n generalizing s with
  | zero => rfl
  | succ n ih =>
    have hrun := takeSample_counted_run s harmed (by omega)
    rw [List.replicate_succ, takeSamples_cons, ih _ (armed_takeSample true s harmed) (by omega),
      hrun]
    omega

/-- The preamble leaves its marker at the position after it (40_sampler.md R104). -/
theorem takeSamples_preamble (s : State) (hinv : s.Inv) (harmed : Armed s) (hrun : s.run = 0)
    (hmcount : s.mcount = 0) :
    (takeSamples (List.replicate 9 true) s).mcount = 1 ∧
      (takeSamples (List.replicate 9 true) s).marks[0] =
        (takeSamples (List.replicate 9 true) s).widx := by
  have hones : List.replicate 9 true = List.replicate 8 true ++ [true] := rfl
  obtain ⟨hm, -⟩ := takeSamples_keeps_markers (List.replicate 8 true) s harmed
    (.inl (by rw [hrun]; decide))
  have h8 := takeSamples_ones_run 8 s harmed (by omega)
  have hp := takeSamples_params (List.replicate 8 true) s
  have harmed8 := armed_takeSamples (List.replicate 8 true) s harmed
  obtain ⟨-, ⟨hquota, -⟩, -⟩ := hinv.params_wf
  rw [hones, takeSamples_concat]
  generalize takeSamples (List.replicate 8 true) s = u at hm h8 hp harmed8
  rw [hmcount] at hm
  obtain ⟨hmarks, hcount, -⟩ := takeSample_ninth_open u harmed8 (by omega) (by rw [hp]; omega)
  obtain ⟨-, hwidx, -⟩ := takeSample_of_armed true u harmed8
  rw [hmarks, hcount, hwidx, hm]
  exact ⟨rfl, Vector.getElem_setIfInBounds_self _⟩

/-- Later markers go to later slots. -/
theorem takeSamples_keeps_first (bs : List Bit) (s : State) (h : 0 < s.mcount) :
    0 < (takeSamples bs s).mcount ∧ (takeSamples bs s).marks[0] = s.marks[0] := by
  induction bs generalizing s with
  | nil => exact ⟨h, rfl⟩
  | cons b bs ih =>
    obtain ⟨-, -, hle, -⟩ := takeSample_progress b s
    have hfirst : (takeSample b s).marks[0] = s.marks[0] := by
      obtain hs | ⟨-, -, hs⟩ := takeSample_cases b s
      · rw [hs]
      obtain ⟨m, c, r, y, hd, ⟨rfl, -⟩ | ⟨-, -, -, rfl, -⟩⟩ :=
        detect_cases b (nextIdx s) (appendBit b s) <;> rw [hs, hd]
      · rfl
      · exact Vector.getElem_setIfInBounds_ne _ h.ne'
    rw [takeSamples_cons, ← hfirst]
    exact ih _ (h.trans_le hle)

/-- A frame sampled from an armed synchronizer with no marker is the first candidate. -/
theorem takeSamples_frame (s : State) (tag : Vector Nibble 10) (col : Vector Bit 4) (stop : Bit)
    (hinv : s.Inv) (harmed : Armed s) (hrun : s.run = 0) (hmcount : s.mcount = 0) :
    0 < (takeSamples (frameBits tag col stop) s).mcount ∧
      HoldsFrame (takeSamples (frameBits tag col stop) s)
        (cand (takeSamples (frameBits tag col stop) s) 0) tag col stop := by
  obtain ⟨hcount, hmark⟩ := takeSamples_preamble s hinv harmed hrun hmcount
  have hinv' := hinv.takeSamples (List.replicate 9 true)
  have harmed' := armed_takeSamples (List.replicate 9 true) s harmed
  obtain ⟨⟨hcap, -⟩, -⟩ := hinv'.params_wf
  rw [frameBits_eq, takeSamples_append]
  generalize takeSamples (List.replicate 9 true) s = u at hcount hmark hinv' harmed' hcap
  obtain ⟨hpos, hfirst⟩ := takeSamples_keeps_first (candidateBits tag col stop) u (by omega)
  refine ⟨hpos, fun j hj => ?_⟩
  have hlen := candidateBits_length tag col stop
  have hcand : cand (takeSamples (candidateBits tag col stop) u) 0 = u.widx := by
    rw [← hmark, ← hfirst]
    simp [cand]
  rw [hcand, at_takeSamples_window _ u hinv' harmed' j (by omega) (by omega),
    List.getElem?_eq_getElem (by omega)]

/-- Settles O59: the frame is the first candidate whatever came before and after its preamble, so
the validation accepts it and publishes its characters (O21). -/
theorem sampledFrameIsRecovered : Obligations.SampledFrameIsRecovered := by
  intro s n tag col hinv harmed hmcount hzeros hcol
  obtain ⟨hrun, hcount⟩ := takeSamples_zeros n s harmed hzeros
  obtain ⟨hpos, hframe⟩ := takeSamples_frame (takeSamples (List.replicate n false) s) tag col false
    (hinv.takeSamples _) (armed_takeSamples _ s harmed) hrun (hcount.trans hmcount)
  rw [← takeSamples_append] at hpos hframe
  rw [execAll_append, foldl_effect_samples]
  generalize List.replicate n false ++ frameBits tag col false = bs at hpos hframe ⊢
  obtain ⟨hfree, -⟩ := armed_takeSamples bs s harmed
  have hacc := hframe.accepted (by simpa only [takeSamples_params] using hcol)
  obtain ⟨t, hexec, hout, htag, hperr, haperr, hidle⟩ :=
    acceptedFrameIsRecovered _ 0 tag (hinv.takeSamples bs) hfree ⟨hpos, hacc, nofun⟩ hframe.spells
  refine ⟨t, hexec, hout, htag, ?_, hperr, hidle⟩
  exact Bool.eq_false_iff.2 fun h => hframe.no_mismatch (haperr.1 h)

end Sys2Proof.Machine
end

section
/-! PROOFS. The front end over many cycles, then the obligations O54 and O55 (40_sampler.md
section 4, 70_reset_and_hazards.md section 3). -/

open Sys2Proof.Claim

namespace Sys2Proof.Machine

theorem feRun_cons (d : Nat) (f : FrontEnd) (r : Bit) (rf : List Bit) :
    feRun d f (r :: rf) = feRun d (f.tick d r) rf := rfl

/-- While FE_CNT is not 0 it counts down, whatever the line does (40_sampler.md R113). -/
theorem feRun_cnt (d : Nat) (f : FrontEnd) (rf : List Bit) (h : rf.length ≤ f.cnt) :
    (feRun d f rf).cnt = f.cnt - rf.length := by
  induction rf generalizing f with
  | nil => rfl
  | cons r rf ih =>
    rw [List.length_cons] at h
    have hcnt : (f.tick d r).cnt = f.cnt - 1 := nextCnt_of_counting d f (by omega)
    rw [feRun_cons, ih _ (by omega), hcnt, List.length_cons]
    omega

theorem presents_isSome_iff (f : FrontEnd) : f.presents.isSome = true ↔ f.cnt = 1 := by
  by_cases h : f.cnt = 1
  · simp [presents_due f h, h]
  · simp [presents_none f h, h]

/-- Settles O54: the cycle of the edge loads the delay, and each cycle after it counts one. -/
theorem sampleComesDelayCyclesAfterTheEdge : Obligations.SampleComesDelayCyclesAfterTheEdge := by
  intro d f rf hd hcnt hedge hne hlen
  cases rf with
  | nil => exact absurd rfl hne
  | cons r rf =>
    rw [List.length_cons] at hlen ⊢
    have hload : (f.tick d r).cnt = d := nextCnt_of_edge d f hcnt hedge
    rw [presents_isSome_iff, feRun_cons, feRun_cnt d _ rf (by omega), hload]
    omega

/-- With the line high and both registers high no edge comes: FE_CNT counts down to 0 and stays. -/
theorem feRun_high (d k n : Nat) :
    feRun d ⟨true, true, true, n⟩ (List.replicate k true) = ⟨true, true, true, n - k⟩ := by
  induction k generalizing n with
  | zero => rfl
  | succ k ih =>
    have htick : FrontEnd.tick d true ⟨true, true, true, n⟩ = ⟨true, true, true, n - 1⟩ := by
      cases n <;> rfl
    rw [List.replicate_succ, feRun_cons, htick, ih, Nat.sub_sub, Nat.add_comm 1]

/-- From the third cycle on, the front end has seen its edge and counts. -/
theorem feRun_high_from_reset (d k : Nat) :
    feRun d ⟨false, false, false, 0⟩ (List.replicate (k + 3) true) = ⟨true, true, true, d - k⟩ :=
  feRun_high d k d

/-- Settles O55: the states of the first three cycles, and the countdown after them. -/
theorem highLineAfterResetGivesOneSample : Obligations.HighLineAfterResetGivesOneSample := by
  intro d k hd
  match k with
  | 0 => exact ⟨⟨nofun, nofun⟩, by rw [if_neg (by omega)]; rfl⟩
  | 1 => exact ⟨⟨nofun, nofun⟩, by rw [if_neg (by omega)]; rfl⟩
  | 2 => exact ⟨⟨fun _ => rfl, fun _ => rfl⟩, by rw [if_neg (by omega)]; rfl⟩
  | k + 3 =>
    rw [feRun_high_from_reset]
    refine ⟨⟨nofun, by omega⟩, ?_⟩
    by_cases hk : d - k = 1
    · rw [presents_due _ hk, if_pos (by omega)]
    · rw [presents_none _ hk, if_neg (by omega)]

end Sys2Proof.Machine
end

section
/-! PROOFS. A clock cycle: the events it runs and where they start from, its steps, the cycle while
the sampler is masked or a validation runs, then the obligations O51, O52 and O56 to O58
(60_exceptions.md R206, R214, 30_encoding.md R73, 42_validator.md R154). -/

open Sys2Proof.Claim

namespace Sys2Proof.Machine

/-! ## The events of a cycle -/

theorem tick_eq (d : Nat) (rf : Bit) (f : FrontEnd) :
    f.tick d rf =
      { s1 := rf, s2 := f.s1, prev := f.s2,
        cnt := if f.cnt ≠ 0 then f.cnt - 1 else if f.s2 ≠ f.prev then d else 0 } := by
  rw [FrontEnd.tick, FrontEnd.mk.injEq]
  refine ⟨rfl, rfl, rfl, ?_⟩
  split_ifs with hcnt hedge
  · exact nextCnt_of_counting d f hcnt
  · exact nextCnt_of_edge d f (not_not.1 hcnt) hedge
  · exact nextCnt_of_no_edge d f (not_not.1 hcnt) (not_not.1 hedge)

theorem clockTick_eq_atEdge (c : Cycle) (s : State) (hrst : c.rst = false) :
    setEvents [] (clockTick c s) = atEdge s c := by
  rw [clockTick_run c s hrst, atEdge, ← tick_eq]
  rfl

theorem filterMap_samplePort (c : Cycle) (s : State) :
    ((samplePort c s).toList.map PortWord.sample).filterMap eventOf = sampleOf s c := by
  cases hfe : s.params.fePresent
  · rw [samplePort_external c s hfe, sampleOf, hfe]
    cases hvalid : c.smp.getLsbD 1
    · rfl
    · simp [eventOf, decode, decodeSample, hvalid]
  · rw [samplePort_frontEnd c s hfe, sampleOf, hfe]
    by_cases hcnt : s.fe.cnt = 1
    · have hdecode : decode (.sample (1#1 ++ BitVec.ofBool s.fe.s2)) = .ok (.sample s.fe.s2) :=
        decode_encode_sample s.fe.s2
      simp [presents_due s.fe hcnt, hcnt, eventOf, hdecode]
    · simp [presents_none s.fe hcnt, hcnt]

theorem hostOf_eq (c : Cycle) : hostOf c = (eventOf (.host c.host)).toList := by
  rw [hostOf, eventOf]
  cases decode (.host c.host) <;> rfl

theorem decode_host_idle (w : HostWord) (hwe : w.getLsbD 37 = false) (hre : w.getLsbD 36 = false) :
    decode (.host w) = .error .hostIdle := by
  simp only [decode, decodeHost, hwe, hre]

theorem hostOf_idle (c : Cycle) (hwe : c.host.getLsbD 37 = false)
    (hre : c.host.getLsbD 36 = false) : hostOf c = [] := by
  rw [hostOf, decode_host_idle c.host hwe hre]

theorem filterMap_hostPort (c : Cycle) :
    ((hostPort c).toList.map PortWord.host).filterMap eventOf = hostOf c := by
  by_cases h : c.host.getLsbD 37 = true ∨ c.host.getLsbD 36 = true
  · rw [hostPort_active c h, hostOf_eq]
    cases he : eventOf (.host c.host) <;> simp [he]
  · rw [not_or, Bool.not_eq_true, Bool.not_eq_true] at h
    rw [hostPort_idle c h.1 h.2, hostOf_idle c h.1 h.2]
    rfl

theorem filterMap_completion (s : State) :
    (if completionDue s then [PortWord.vdone] else []).filterMap eventOf = completionOf s := by
  simp only [completionOf, completionDue_iff]
  split_ifs <;> rfl

/-- A cycle without RESET runs its sample, its host transaction and its VDONE, in this order, from
the state with the clock moved on (60_exceptions.md R206). -/
theorem runCycle_of_no_reset (c : Cycle) (s : State) (hrst : c.rst = false) :
    runCycle c s = execAll (sampleOf s c ++ hostOf c ++ completionOf s) (atEdge s c) := by
  rw [runCycle_eq_execAll, clockTick_eq_atEdge c s hrst, cycleEvents_run c s hrst,
    List.filterMap_append, List.filterMap_append, filterMap_samplePort, filterMap_hostPort,
    filterMap_completion]

/-! ## A cycle as steps -/

theorem takeSample_setEvents (b : Bit) (ws : List PortWord) (s : State) :
    takeSample b (setEvents ws s) = setEvents ws (takeSample b s) := by
  have h := takeSample_clock b s s.fe s.vcnt ws
  obtain ⟨bu, w, d, m, c, r, y, hs⟩ := takeSample_fields b s
  rw [hs] at h ⊢
  exact h

theorem enterValidation_setEvents (ws : List PortWord) (s : State) :
    enterValidation (setEvents ws s) = setEvents ws (enterValidation s) := by
  cases h : s.busy
  · rw [enterValidation_free s h, enterValidation_free (setEvents ws s) h]
    rfl
  · rw [enterValidation_busy s h, enterValidation_busy (setEvents ws s) h]

theorem discardFrame_setEvents (ws : List PortWord) (s : State) :
    discardFrame (setEvents ws s) = setEvents ws (discardFrame s) := by
  cases h : s.busy
  · rw [discardFrame_free s h, discardFrame_free (setEvents ws s) h]
    rfl
  · rw [discardFrame_busy s h, discardFrame_busy (setEvents ws s) h]

theorem publish_setEvents (ws : List PortWord) (s : State) :
    publish (setEvents ws s) = setEvents ws (publish s) := by
  cases h : s.pend.outcome
  · rw [publish_accept s h, publish_accept (setEvents ws s) h]
    rfl
  · rw [publish_reject s h, publish_reject (setEvents ws s) h]
    rfl

theorem leaveValidation_setEvents (ws : List PortWord) (s : State) :
    leaveValidation (setEvents ws s) = setEvents ws (leaveValidation s) := by
  cases h : s.busy
  · rw [leaveValidation_free s h, leaveValidation_free (setEvents ws s) h]
  · rw [leaveValidation_busy s h, leaveValidation_busy (setEvents ws s) h]
    exact congrArg frameReset (publish_setEvents ws (clearBusy s))

theorem runCommand_setEvents (v : Word) (ws : List PortWord) (s : State) :
    runCommand v (setEvents ws s) = setEvents ws (runCommand v s) := by
  by_cases h3 : v = 3#32
  · rw [h3, runCommand_softreset, runCommand_softreset]
    rfl
  cases hbusy : s.busy
  · by_cases h1 : v = 1#32
    · rw [h1, runCommand_validate s hbusy, runCommand_validate (setEvents ws s) hbusy,
        enterValidation_setEvents]
    by_cases h2 : v = 2#32
    · rw [h2, runCommand_discard s hbusy, runCommand_discard (setEvents ws s) hbusy,
        discardFrame_setEvents]
    · rw [runCommand_other v s h1 h2 h3, runCommand_other v _ h1 h2 h3]
  · rw [runCommand_busy v s h3 hbusy, runCommand_busy v (setEvents ws s) h3 hbusy]

theorem regWrite_setEvents (a : RegAddr) (v : Word) (ws : List PortWord) (s : State) :
    regWrite a v (setEvents ws s) = setEvents ws (regWrite a v s) := by
  obtain rfl | rfl | ha := regAddr_cases a
  · rfl
  · exact runCommand_setEvents v ws s
  · rw [regWrite_ignored a v s ha, regWrite_ignored a v _ ha]

/-- No event reads or writes the events pending after it (log 6). -/
theorem effect_setEvents (i : Instr) (ws : List PortWord) (s : State) :
    effect i (setEvents ws s) = setEvents ws (effect i s) := by
  cases i with
  | sample b => exact takeSample_setEvents b ws s
  | wrCmd v => exact runCommand_setEvents v ws s
  | hostReserved11 a v => exact congrArg (returnData 0) (regWrite_setEvents a v ws s)
  | validate => exact enterValidation_setEvents ws s
  | discard => exact discardFrame_setEvents ws s
  | vdone => exact leaveValidation_setEvents ws s
  | rd | wrCtrl | wrRoStatusParam | wrRoTagText | wrRoMarks | nop | softreset | cmdReserved
  | reset => rfl

/-- Running a word commutes with the events pending after it. -/
theorem runWord_setEvents (w : PortWord) (s : State) :
    ∃ t, ∀ ws, runWord w (setEvents ws s) = .next (setEvents ws t) := by
  cases h : decode w with
  | ok i =>
    refine ⟨effect i s, fun ws => ?_⟩
    rw [runWord_event w i _ h, exec_eq_effect, effect_setEvents]
  | error e => exact ⟨s, fun ws => runWord_noEvent w e _ h⟩

/-- The pending words, one step each, are run in their order. -/
theorem run_setEvents (ws : List PortWord) (s : State) :
    Sys2Proof.core.run ws.length (setEvents ws s) = runWords ws (setEvents [] s) := by
  induction ws generalizing s with
  | nil => rfl
  | cons w ws ih =>
    obtain ⟨t, ht⟩ := runWord_setEvents w s
    have hstep : step (setEvents (w :: ws) s) = .next (setEvents ws t) :=
      (step_event _ w ws rfl).trans (ht ws)
    rw [List.length_cons, run_succ_of_step ws.length hstep, ih, runWords, ht []]

/-- Settles O52: the clock edge makes the cycle's events pending, and they are then run. -/
theorem cycleIsItsSteps : Obligations.CycleIsItsSteps := by
  intro s c rest hevents hcycles
  have hpending : (clockTick c (setCycles rest s)).events = cycleEvents c s := by
    cases hrst : c.rst
    · rw [clockTick_events c _ hrst, setCycles_events, hevents]
      rfl
    · rw [clockTick_reset c _ hrst, cycleEvents_reset c s hrst, setEvents_events,
        setCycles_events, hevents]
      rfl
  have hself : setEvents (cycleEvents c s) (clockTick c (setCycles rest s)) =
      clockTick c (setCycles rest s) := by rw [← hpending]; rfl
  have hrun := run_setEvents (cycleEvents c s) (clockTick c (setCycles rest s))
  rw [hself] at hrun
  rw [Nat.add_comm, run_succ_of_step _ (step_cycle s c rest hevents hcycles), hrun]
  rfl

/-! ## A cycle with the sampler masked -/

theorem sampleOf_cases (s : State) (c : Cycle) :
    sampleOf s c = [] ∨ ∃ b, sampleOf s c = [.sample b] := by
  unfold sampleOf
  split_ifs
  · exact .inr ⟨_, rfl⟩
  · exact .inl rfl
  · exact .inr ⟨_, rfl⟩
  · exact .inl rfl

theorem hostOf_cases (c : Cycle) : hostOf c = [] ∨ ∃ i, hostOf c = [i] := by
  unfold hostOf
  cases decode (.host c.host) with
  | ok i => exact .inr ⟨i, rfl⟩
  | error e => exact .inl rfl

theorem completionOf_due (s : State) (hbusy : s.busy = true) (h : s.vcnt ≤ 1) :
    completionOf s = [.vdone] :=
  if_pos ⟨hbusy, h⟩

theorem completionOf_early (s : State) (h : 1 < s.vcnt) : completionOf s = [] :=
  if_neg fun hdue => absurd hdue.2 (Nat.not_le.2 h)

theorem completionOf_free (s : State) (hfree : s.busy = false) : completionOf s = [] :=
  if_neg fun hdue => absurd (hdue.1.symm.trans hfree) nofun

theorem eq_vdone_of_mem_completionOf {s : State} {i : Instr} (h : i ∈ completionOf s) :
    i = .vdone := by
  unfold completionOf at h
  split_ifs at h
  · exact List.mem_singleton.1 h
  · nomatch h

/-- While the sampler is masked a cycle's sample is dropped (40_sampler.md R106). -/
theorem runCycle_of_masked (c : Cycle) (s : State) (hrst : c.rst = false)
    (hmasked : s.busy = true ∨ s.ctrl.en = false) :
    runCycle c s = execAll (hostOf c ++ completionOf s) (atEdge s c) := by
  rw [runCycle_of_no_reset c s hrst, List.append_assoc]
  obtain h | ⟨b, h⟩ := sampleOf_cases s c <;> rw [h]
  · rfl
  · have hdropped : effect (.sample b) (atEdge s c) = atEdge s c :=
      takeSample_masked b _ ((samplerMasked_eq_true _).2 hmasked)
    rw [List.singleton_append, execAll_cons, hdropped]

theorem runCycle_of_busy_quiet (c : Cycle) (s : State) (hquiet : Quiet c) (hbusy : s.busy = true) :
    runCycle c s = execAll (completionOf s) (atEdge s c) := by
  obtain ⟨hrst, hwe, hre⟩ := hquiet
  rw [runCycle_of_masked c s hrst (.inl hbusy), hostOf_idle c hwe hre, List.nil_append]

/-! ## The order within a cycle -/

/-- A sample after the clock edge leaves what it leaves before it, for the buffer's reads and for a
validation. -/
theorem takeSample_atEdge (b : Bit) (c : Cycle) (s : State) :
    (∀ x, at_ (takeSample b (atEdge s c)) x = at_ (takeSample b s) x) ∧
      validateResult (takeSample b (atEdge s c)) = validateResult (takeSample b s) := by
  rw [atEdge, takeSample_clock]
  exact ⟨fun _ => rfl, rfl⟩

theorem at_enterValidation (s : State) (x : Nat) : at_ (enterValidation s) x = at_ s x := by
  obtain ⟨p, b, n, h⟩ := enterValidation_fields s
  rw [h]

/-- A sample in the cycle of a VALIDATE write is stored first and validated with the rest. -/
theorem runCycle_sample_validate (s : State) (c : Cycle) (b : Bit) (hinv : s.Inv)
    (hrst : c.rst = false) (hsample : sampleOf s c = [.sample b]) (hhost : c.host = 0x2100000001)
    (harmed : Armed s) :
    ∃ t u, runCycle c s = .next t ∧ t.busy = true ∧ at_ t s.widx = b ∧
      exec (.sample b) s = .next u ∧ t.pend = validateResult u := by
  have hwrite : hostOf c = [.wrCmd 1] := by rw [hostOf, hhost]; rfl
  obtain ⟨hfree, -⟩ := armed_takeSample b (atEdge s c) harmed
  obtain ⟨hbusy, hpend, -⟩ := enterValidation_of_free _ hfree
  obtain ⟨hat, hresult⟩ := takeSample_atEdge b c s
  refine ⟨enterValidation (takeSample b (atEdge s c)), takeSample b s, ?_, hbusy, ?_,
    exec_sample_eq_takeSample b s, hpend.trans hresult⟩
  · rw [runCycle_of_no_reset c s hrst, hsample, hwrite, completionOf_free s harmed.1,
      List.append_nil, List.singleton_append, execAll_cons, execAll_cons, execAll_nil]
    exact congrArg _ (runCommand_validate _ hfree)
  · rw [at_enterValidation, hat, at_takeSample b s hinv harmed,
      if_pos (Nat.mod_eq_of_lt hinv.widx_lt)]

/-- No transaction of the host is a SAMPLE (30_encoding.md R70). -/
theorem not_sample_of_mem_hostOf {c : Cycle} {i : Instr} (h : i ∈ hostOf c) (b : Bit) :
    i ≠ .sample b := by
  rw [hostOf_eq, eventOf] at h
  cases hdecode : decode (.host c.host) with
  | error e => simp [hdecode] at h
  | ok j =>
    obtain rfl : i = j := by simpa [hdecode] using h
    rw [← hostWord_of_fields c.host] at hdecode
    obtain ⟨-, -, rfl⟩ | ⟨-, -, rfl⟩ | ⟨-, -, rfl⟩ := decode_hostWord_eq_ok hdecode
    · nofun
    · unfold decodeWrite
      split_ifs <;> nofun
    · nofun

theorem execAll_buf_of_not_sample (is : List Instr) (s : State)
    (his : ∀ i ∈ is, ∀ b, i ≠ .sample b) :
    ∃ t, execAll is s = .next t ∧ t.buf = s.buf := by
  induction is generalizing s with
  | nil => exact ⟨s, rfl, rfl⟩
  | cons i is ih =>
    obtain ⟨hi, his⟩ := List.forall_mem_cons.1 his
    rw [execAll_cons, ← effect_buf_of_not_sample i s hi]
    exact ih _ his

theorem leaveValidation_rdata (s : State) : (leaveValidation s).rdata = s.rdata := by
  cases h : s.busy
  · rw [leaveValidation_free s h]
  · obtain ⟨g, a, p, o, hp⟩ := publish_fields (clearBusy s)
    rw [leaveValidation_busy s h, hp]
    rfl

theorem regRead_atEdge (a : RegAddr) (s : State) (c : Cycle) :
    regRead a (atEdge s c) = regRead a s := rfl

/-- A cycle that starts with BUSY 1 writes no entry of BUF; one with a VDONE due ends the
validation, and a read in it sees the values before VDONE. -/
theorem runCycle_busy (s : State) (c : Cycle) (hrst : c.rst = false) (hbusy : s.busy = true) :
    ∃ t, runCycle c s = .next t ∧ t.buf = s.buf ∧
      (s.vcnt ≤ 1 → t.busy = false ∧
        ∀ a, hostOf c = [.rd a] → t.rdata = some (regRead a s)) := by
  rw [runCycle_of_masked c s hrst (.inl hbusy)]
  have hother : ∀ i ∈ hostOf c ++ completionOf s, ∀ b, i ≠ .sample b := by
    intro i hi b
    obtain hi | hi := List.mem_append.1 hi
    · exact not_sample_of_mem_hostOf hi b
    · rw [eq_vdone_of_mem_completionOf hi]
      nofun
  obtain ⟨t, hexec, hbuf⟩ := execAll_buf_of_not_sample _ (atEdge s c) hother
  refine ⟨t, hexec, hbuf, fun hdue => ?_⟩
  rw [completionOf_due s hbusy hdue, execAll_append, execAll_cons, execAll_nil] at hexec
  obtain rfl := Host.Outcome.next.inj hexec
  refine ⟨leaveValidation_busy_clear _, fun a ha => ?_⟩
  rw [effect, leaveValidation_rdata, ha]
  exact congrArg some (regRead_atEdge a s c)

/-- Settles O51: RESET alone; else the events in their order, of which the last two clauses are
consequences. -/
theorem sameCycleOrder : Obligations.SameCycleOrder :=
  ⟨fun s c hevents hrst => runCycle_reset c s hrst hevents,
    fun s c hrst => runCycle_of_no_reset c s hrst, runCycle_sample_validate, runCycle_busy⟩

/-! ## Cycles in which neither RESET nor the host acts -/

/-- A quiet cycle before the last of a validation only moves the clock. -/
theorem runCycle_quiet_early (c : Cycle) (s : State) (hquiet : Quiet c) (hbusy : s.busy = true)
    (h : 1 < s.vcnt) : runCycle c s = .next (atEdge s c) := by
  rw [runCycle_of_busy_quiet c s hquiet hbusy, completionOf_early s h, execAll_nil]

/-- The last one runs VDONE. -/
theorem runCycle_quiet_due (c : Cycle) (s : State) (hquiet : Quiet c) (hbusy : s.busy = true)
    (h : s.vcnt ≤ 1) : runCycle c s = .next (leaveValidation (atEdge s c)) := by
  rw [runCycle_of_busy_quiet c s hquiet hbusy, completionOf_due s hbusy h, execAll_cons,
    execAll_nil]
  rfl

theorem leaveValidation_outcome_ne_none (s : State) (hbusy : s.busy = true) :
    (leaveValidation s).outcome ≠ .none := by
  cases hp : s.pend.outcome
  · obtain ⟨h, -⟩ := leaveValidation_of_accept s hbusy hp
    rw [h]; nofun
  · obtain ⟨h, -⟩ := leaveValidation_of_reject s hbusy hp
    rw [h]; nofun

/-- A validation goes on while the countdown has cycles left. -/
theorem runCycles_quiet_early (cs : List Cycle) (s : State) (hquiet : ∀ c ∈ cs, Quiet c)
    (hbusy : s.busy = true) (h : cs.length < s.vcnt) :
    ∃ u, runCycles cs s = .next u ∧ u.busy = true := by
  induction cs generalizing s with
  | nil => exact ⟨s, rfl, hbusy⟩
  | cons c cs ih =>
    obtain ⟨hc, hcs⟩ := List.forall_mem_cons.1 hquiet
    rw [List.length_cons] at h
    rw [runCycles_cons c cs s _ (runCycle_quiet_early c s hc hbusy (by omega))]
    exact ih (atEdge s c) hcs hbusy (Nat.lt_sub_of_add_lt h)

/-- It ends in the cycle that uses up the countdown. -/
theorem runCycles_quiet_due (cs : List Cycle) (s : State) (hquiet : ∀ c ∈ cs, Quiet c)
    (hbusy : s.busy = true) (hpos : 0 < s.vcnt) (h : cs.length = s.vcnt) :
    ∃ u, runCycles cs s = .next u ∧ u.busy = false ∧ u.outcome ≠ .none := by
  induction cs generalizing s with
  | nil => exact absurd h hpos.ne
  | cons c cs ih =>
    obtain ⟨hc, hcs⟩ := List.forall_mem_cons.1 hquiet
    rw [List.length_cons] at h
    by_cases hlast : s.vcnt ≤ 1
    · obtain rfl : cs = [] := List.eq_nil_of_length_eq_zero (by omega)
      rw [runCycles_cons c [] s _ (runCycle_quiet_due c s hc hbusy hlast)]
      exact ⟨_, rfl, leaveValidation_busy_clear _,
        leaveValidation_outcome_ne_none (atEdge s c) hbusy⟩
    · rw [runCycles_cons c cs s _ (runCycle_quiet_early c s hc hbusy (by omega))]
      have hleft : (atEdge s c).vcnt = s.vcnt - 1 := rfl
      exact ih (atEdge s c) hcs hbusy (by omega) (by omega)

/-- Settles O56: VALIDATE loads the countdown with the latency, and every quiet cycle counts one. -/
theorem completionComesAtTheLatency : Obligations.CompletionComesAtTheLatency := by
  intro s t cs hinv hfree h hquiet
  obtain ⟨-, -, hlatency, -⟩ := hinv.params_wf
  obtain rfl := (exec_eq_next_iff .validate s t).1 h
  obtain ⟨hbusy, -⟩ := enterValidation_of_free s hfree
  have hvcnt : (enterValidation s).vcnt = s.params.validateLatency := by
    rw [enterValidation_free s hfree]
  exact ⟨fun hlen => runCycles_quiet_early cs _ hquiet hbusy (hvcnt ▸ hlen),
    fun hlen => runCycles_quiet_due cs (enterValidation s) hquiet hbusy (by omega)
      (hlen.trans hvcnt.symm)⟩

/-- Settles O58: a quiet cycle presents a sample at most, which is dropped. -/
theorem disabledBlockIsQuiescent : Obligations.DisabledBlockIsQuiescent := by
  intro s cs hen hfree hevents hquiet
  suffices h : ∃ f n, runCycles cs s = .next { s with fe := f, vcnt := n } by
    obtain ⟨f, n, h⟩ := h
    exact ⟨_, n, h, rfl⟩
  induction cs generalizing s with
  | nil => exact ⟨s.fe, s.vcnt, rfl⟩
  | cons c cs ih =>
    obtain ⟨⟨hrst, hwe, hre⟩, hcs⟩ := List.forall_mem_cons.1 hquiet
    have hcycle : runCycle c s = .next (atEdge s c) := by
      rw [runCycle_of_masked c s hrst (.inr hen), hostOf_idle c hwe hre,
        completionOf_free s hfree]
      rfl
    obtain ⟨f, n, h⟩ := ih (atEdge s c) hen hfree rfl hcs
    refine ⟨f, n, (runCycles_cons c cs s _ hcycle).trans (h.trans ?_)⟩
    rw [atEdge, ← hevents]

/-! ## The end of every validation -/

theorem run_add_of_next {m : Nat} {s t : State} (n : Nat) (h : Sys2Proof.core.run m s = .next t) :
    Sys2Proof.core.run (m + n) s = Sys2Proof.core.run n t := by
  induction m generalizing s with
  | zero =>
    obtain rfl := Host.Outcome.next.inj h
    rw [Nat.zero_add]
  | succ m ih =>
    obtain ⟨u, hstep⟩ := step_answers_next s
    rw [run_succ_of_step m hstep] at h
    rw [Nat.succ_add, run_succ_of_step (m + n) hstep, ih h]

theorem execAll_sameSchedule (is : List Instr) (s t : State) (h : execAll is s = .next t) :
    s.SameSchedule t := by
  induction is generalizing s with
  | nil =>
    obtain rfl := Host.Outcome.next.inj h
    exact ⟨rfl, rfl, rfl⟩
  | cons i is ih =>
    rw [execAll_cons] at h
    obtain ⟨hp, he, hc⟩ := effect_sameSchedule i s
    obtain ⟨hp', he', hc'⟩ := ih _ h
    exact ⟨hp'.trans hp, he'.trans he, hc'.trans hc⟩

/-- A cycle takes its events, and the cycles after it stay. -/
theorem runCycle_answers_next (c : Cycle) (s : State) :
    ∃ t, runCycle c s = .next t ∧ t.events = [] ∧ t.cycles = s.cycles := by
  obtain ⟨f, n, ws, hedge⟩ := clockTick_fields c s
  have hexec := execAll_eq_foldl ((cycleEvents c s).filterMap eventOf)
    (setEvents [] (clockTick c s))
  obtain ⟨-, hevents, hcycles⟩ := execAll_sameSchedule _ _ _ hexec
  rw [← runCycle_eq_execAll] at hexec
  exact ⟨_, hexec, hevents, hcycles.trans (by rw [hedge]; rfl)⟩

/-- A cycle ends the validation it starts with, or counts one of more than one cycles left. -/
theorem runCycle_of_busy (c : Cycle) (s t : State) (hbusy : s.busy = true) (hevents : s.events = [])
    (h : runCycle c s = .next t) : t.busy = false ∨ 1 < s.vcnt ∧ t.vcnt = s.vcnt - 1 := by
  cases hrst : c.rst
  · by_cases hdue : s.vcnt ≤ 1
    · obtain ⟨u, hu, -, hend⟩ := runCycle_busy s c hrst hbusy
      obtain rfl := Host.Outcome.next.inj (hu.symm.trans h)
      exact .inl (hend hdue).1
    rw [runCycle_of_masked c s hrst (.inl hbusy), completionOf_early s (by omega),
      List.append_nil] at h
    obtain hhost | ⟨i, hhost⟩ := hostOf_cases c <;> rw [hhost] at h
    · obtain rfl := Host.Outcome.next.inj h
      exact .inr ⟨by omega, rfl⟩
    · rw [execAll_cons, execAll_nil] at h
      obtain rfl := Host.Outcome.next.inj h
      cases hi : endsValidation i
      · obtain ⟨k, r, hkept⟩ := effect_of_busy i (atEdge s c) hbusy hi
        exact .inr ⟨by omega, by rw [hkept]; rfl⟩
      · exact .inl (effect_busy_of_endsValidation i _ hi)
  · rw [runCycle_reset c s hrst hevents, exec_reset_eq_hardReset] at h
    obtain rfl := Host.Outcome.next.inj h
    exact .inl rfl

/-- The same cycle as at most four steps: the clock edge and up to three events. -/
theorem run_cycle_of_busy (c : Cycle) (rest : List Cycle) (s : State) (hbusy : s.busy = true)
    (hevents : s.events = []) (hcycles : s.cycles = c :: rest) :
    ∃ k t, k ≤ 4 ∧ Sys2Proof.core.run k s = .next t ∧ t.events = [] ∧ t.cycles = rest ∧
      (t.busy = false ∨ 1 < s.vcnt ∧ t.vcnt = s.vcnt - 1) := by
  have hsteps := cycleIsItsSteps s c rest hevents hcycles
  have hlen := cycleEvents_length c s
  obtain ⟨t, ht, hevents', hcycles'⟩ := runCycle_answers_next c (setCycles rest s)
  exact ⟨_, t, by omega, hsteps.trans ht, hevents', hcycles',
    runCycle_of_busy c (setCycles rest s) t hbusy hevents ht⟩

/-- With at most `n + 1` cycles left on the countdown, `n + 1` cycles end the validation. -/
theorem validation_ends (n : Nat) (s : State) (hbusy : s.busy = true) (hevents : s.events = [])
    (hvcnt : s.vcnt ≤ n + 1) (hcycles : n + 1 ≤ s.cycles.length) :
    ∃ k t, k ≤ 4 * (n + 1) ∧ Sys2Proof.core.run k s = .next t ∧ t.busy = false := by
  induction n generalizing s with
  | zero =>
    obtain ⟨c, rest, hc⟩ := List.exists_cons_of_length_pos hcycles
    obtain ⟨k, t, hk, hrun, -, -, hend⟩ := run_cycle_of_busy c rest s hbusy hevents hc
    exact ⟨k, t, hk, hrun, hend.resolve_right fun h => by omega⟩
  | succ n ih =>
    obtain ⟨c, rest, hc⟩ := List.exists_cons_of_length_pos (Nat.zero_lt_of_lt hcycles)
    obtain ⟨k, t, hk, hrun, hevents', hrest, hend⟩ := run_cycle_of_busy c rest s hbusy hevents hc
    cases hbusy' : t.busy
    · exact ⟨k, t, by omega, hrun, hbusy'⟩
    obtain ⟨-, hleft⟩ := hend.resolve_left fun h => absurd (h.symm.trans hbusy') nofun
    rw [hc, List.length_cons] at hcycles
    obtain ⟨k', u, hk', hrun', hfree⟩ := ih t hbusy' hevents' (by omega) (by rw [hrest]; omega)
    exact ⟨k + k', u, by omega, (run_add_of_next k' hrun).trans hrun', hfree⟩

/-- Settles O57: the invariant bounds the countdown by the latency. -/
theorem everyValidationEnds : Obligations.EveryValidationEnds := by
  intro s hinv hbusy hevents hcycles
  obtain ⟨-, -, hlatency, -⟩ := hinv.params_wf
  have hvcnt := hinv.vcnt_le
  obtain ⟨n, hn⟩ := Nat.exists_eq_add_of_le' hlatency
  rw [hn] at hvcnt hcycles ⊢
  exact validation_ends n s hbusy hevents hvcnt hcycles

end Sys2Proof.Machine
end
